-- ==== Sys2Proof/Word.lean ====
section
/-! DEFINITION. The plain types of the part: bytes, and the names of its ports, channels, lines, groups and resources
(spec/00_scope.md, Conventions). -/

namespace Sys2Proof

/-- A byte of a frame. -/
abbrev Byte := BitVec 8

/-- A logic level: `true` is level 1 (a high pin), `false` is level 0. -/
abbrev Level := Bool

/-- P0 to P3. -/
abbrev Port := Fin 4

/-- C0 to C15. -/
abbrev Chan := Fin 16

/-- I0 to I11. -/
abbrev LineId := Fin 12

/-- G0 to G3. -/
abbrev GroupId := Fin 4

/-- The 17 leasable resources by their code (R186): 0 to 15 for C0 to C15, 16 for the timeline T. -/
abbrev ResId := Fin 17

/-- A set of input lines, bit k for Ik. -/
abbrev LineSet := BitVec 12

/-- A set of channels, bit k for Ck. -/
abbrev ChanSet := BitVec 16

/-- A set of trip groups, bit k for Gk. -/
abbrev LockSet := BitVec 4

/-- A set of the fourteen kind bits of the journal (R113, R186): bits 0 to 11 for I0 to I11, bit 12 MARK, bit 13 TRIP. -/
abbrev KindMask := BitVec 14

/-- The journal's 32-bit sequence number. -/
abbrev SeqNum := BitVec 32

end Sys2Proof
end

