-- ==== Sys2Proof/Syntax.lean ====
section
/-! DEFINITION. The commands of the part: one constructor per row of spec/opcode_table.json, with the operands the event
needs (a port, a channel, a pin level, the bytes of a transaction). -/

namespace Sys2Proof

/-- The six blocks that post notices (R174, the table of 9.4; NOTICES_LOST is the queue's own). -/
inductive PostBlock where
  | timebase | schedule | channels | leases | groups | journal
  deriving DecidableEq, Repr

/-- The sources of journal offers (R118): each line, the schedule, each trip group. -/
inductive OfferSource where
  | line (i : LineId)
  | schedule
  | group (g : GroupId)
  deriving DecidableEq, Repr

/-- The four blocks that take a part of a teardown (R165). -/
inductive PartBlock where
  | schedule | leases | journal | notices
  deriving DecidableEq, Repr

/-- The commands. A request row has the sending port as its operand: the request's own arguments stand in the frame that
the port's engine has taken (R157, R186), which State holds. -/
inductive Instr where
  /-- RESET has been sampled low for this many consecutive TCLK periods (R18). -/
  | resetEntry (lowPeriods : Nat)
  /-- RESET is sampled high; the operand is the level of the twelve input pins at the first sample (R18, R97). -/
  | resetRelease (pins : LineSet)
  /-- Power is applied (R18). -/
  | powerApplied
  | wallTick
  | machineTick
  | stepBoundary
  | creepHoldStart
  | creepHoldEnd
  | timeEnd
  /-- The port's chip select falls (R150). -/
  | transactionStart (p : Port)
  /-- The bytes shifted in so far in the transaction end a frame, or show a length byte above 28 (R152, R153). -/
  | frameJudge (p : Port) (bytes : List Byte)
  /-- The port's chip select rises; the operand is every byte shifted in, one for each byte shifted out (R151, R152). -/
  | transactionEnd (p : Port) (bytes : List Byte)
  | engineTake (p : Port)
  | answerTaken (p : Port)
  | attach (p : Port)
  | detach (p : Port)
  | ident (p : Port)
  | time (p : Port)
  | pace (p : Port)
  | setclock (p : Port)
  | settime (p : Port)
  | claim (p : Port)
  | release (p : Port)
  | leases (p : Port)
  | submit (p : Port)
  | cancel (p : Port)
  | cancelChannel (p : Port)
  | query (p : Port)
  | schedule (p : Port)
  | channelConfig (p : Port)
  | channels (p : Port)
  | lineConfig (p : Port)
  | lines (p : Port)
  | tripConfig (p : Port)
  | arm (p : Port)
  | disarm (p : Port)
  | trips (p : Port)
  | subscribe (p : Port)
  | unsubscribe (p : Port)
  | read (p : Port)
  | notices (p : Port)
  /-- The schedule takes a machine tick, or goes on with the one it is taking; at most `slice` entries are taken before other
  blocks may act (R30, R103). -/
  | scheduleTick (slice : Nat)
  | application
  | channelTick (c : Chan)
  | pulseEnd (c : Chan)
  | trainEdge (c : Chan)
  | holdLimitExpiry (r : ResId)
  | revocation (r : ResId)
  /-- The wait limit of port `p`'s claim on `r` (R87). -/
  | waitLimitExpiry (r : ResId) (p : Port)
  | leaseEndPurge (c : Chan)
  | purgeReport (c : Chan)
  | leaseEndShare (c : Chan)
  | grantStep (c : Chan)
  /-- The line samples its pin, which is at `level` (R97). -/
  | lineSample (i : LineId) (level : Level)
  /-- The sample of the pin at `level` that changes the qualified level (R99). -/
  | qualifiedChange (i : LineId) (level : Level)
  /-- Group `g` takes the oldest qualified change that line `i` has handed to it (R140). -/
  | groupLineChange (g : GroupId) (i : LineId)
  /-- Channel `c` takes the oldest hand-over of group `g`, a lock (R69). -/
  | lock (c : Chan) (g : GroupId)
  | lockReport (g : GroupId)
  | tripPurge (g : GroupId)
  /-- Channel `c` takes the oldest hand-over of group `g`, an unlock (R70). -/
  | unlock (c : Chan) (g : GroupId)
  /-- The journal takes the oldest offer of this source (R118). -/
  | journalOffer (src : OfferSource)
  /-- The notice queue of port `p` takes the oldest post of block `b` to it (R173, R174). -/
  | noticePost (p : Port) (b : PostBlock)
  | lapse (p : Port)
  | scheduleTeardown (p : Port)
  | leaseTeardown (p : Port)
  | journalTeardown (p : Port)
  | noticeTeardown (p : Port)
  /-- Port `p` takes the report of block `b` that its part is done (R166). -/
  | teardownReport (p : Port) (b : PartBlock)
  deriving DecidableEq, Repr

end Sys2Proof
end

