-- ==== Sys2Proof/Config.lean ====
section
/-! DEFINITION. The numbers the spec fixes for this part, and the one value it leaves open. -/

namespace Sys2Proof.Config

/-- Wall time is a 48-bit count and returns to 0 after 2^48 - 1 (R1). -/
def wallModulus : Nat := 2 ^ 48

/-- The last machine time, TIME_END (R9). -/
def lastMachTime : Nat := 2 ^ 48 - 1

/-- The wall prescale count's last value (R1). -/
def wallPrescaleLast : Nat := 1023

/-- TCLK periods RESET must be low (R18). -/
def resetPeriods : Nat := 16

/-- The largest number of entries taken at one machine tick (R30). -/
def fireBudget : Nat := 8

/-- Entries the schedule holds in all (R22). -/
def scheduleCapacity : Nat := 192

/-- Entries the schedule holds of one port (R22). -/
def portQuota : Nat := 64

/-- Entries the journal's ring holds (R111). -/
def journalCapacity : Nat := 512

/-- Notices a queue holds before it stores NOTICES_LOST in place of the next (R176). -/
def noticeRoom : Nat := 15

/-- Frames a request queue or a reply queue holds (R155, R156). -/
def queueDepth : Nat := 4

/-- The largest pending step count (R7). -/
def maxSteps : Nat := 15

/-- The largest 24-bit number: details, lateness, limits, terms, widths (R24, R32, R76, R161, R172). -/
def max24 : Nat := 16777215

/-- The largest 16-bit number: tags, counts (R23, R62, R121, R177). -/
def max16 : Nat := 65535

/-- The largest payload of a request frame (R152). -/
def maxPayload : Nat := 28

/-- The shortest session term (R161). -/
def minTerm : Nat := 64

/-- The `k`-th byte that port `p` drives on MISO while its chip select, low since before RESET release, carries no transaction, at a wall
time: R192 has the pin driven and R150 gives no byte. A FREE VALUE (entry 31). -/
opaque misoIdle : Port → (k wallTime : Nat) → Byte

end Sys2Proof.Config
end

