-- ==== Sys2Proof/Machine/State.lean ====
section
/-! DEFINITION. Every piece of state the spec gives the part, as plain data, and its values at RESET release. Times, counts
and limits are Nat (Safety.lean states their ranges); sets of lines, channels, groups and kinds, sequence numbers and bytes
are bit vectors. -/

namespace Sys2Proof.Machine

/-- How many posts of each block an event has in its causal past (R174). The model's own data. -/
structure Clock where
  timebase : Nat := 0
  schedule : Nat := 0
  channels : Nat := 0
  leases : Nat := 0
  groups : Nat := 0
  journal : Nat := 0
  deriving DecidableEq, Repr

/-- Who takes events one after another: the blocks, and each port and each notice queue by itself (R149, R171). -/
inductive Agent where
  | timebase | schedule | channels | leases | lines | journal | groups
  | port (p : Port)
  | queue (p : Port)
  deriving DecidableEq, Repr

/-! ### Time (01) -/

/-- The pace modes (R5 to R8). -/
inductive PaceMode where
  | hold | run | step | creep
  deriving DecidableEq, Repr

/-- The Timebase (R1 to R9, R18). A `...Due` field marks an event that the clock or a tick has brought and that has not been
taken yet (entries 1 and 9). -/
structure Timebase where
  wallTime : Nat := 0
  wallPrescale : Nat := 0
  wallTickDue : Bool := false
  machTime : Nat := 0
  machPrescale : Nat := 0
  machTickDue : Bool := false
  /-- Machine ticks since RESET release (R2). -/
  ordinal : Nat := 0
  mode : PaceMode := .hold
  /-- The creep is in its hold phase (R8). -/
  creepHolding : Bool := false
  pendingSteps : Nat := 0
  factor : Nat := 2
  holdCount : Nat := 0
  holdEndDue : Bool := false
  tdiv : Nat := 1
  cycle : Nat := 65536
  /-- A tick has reached a boundary in STEP or in a creep run phase (R7, R8). -/
  boundaryDue : Bool := false
  /-- A tick has reached 2^48 - 1 (R9). -/
  timeEndDue : Bool := false
  deriving DecidableEq, Repr

/-- A machine tick handed to a block (R2, R3). -/
structure Tick where
  time : Nat
  ordinal : Nat
  clk : Clock := {}
  deriving DecidableEq, Repr

/-! ### The action schedule (02) -/

/-- What an entry asks for when it fires (R20). -/
inductive Action where
  | set (c : Chan) (level : Level)
  | pulse (c : Chan) (width : Nat)
  | train (c : Chan) (period onTime pulses : Nat)
  | groupSet (mask values : ChanSet)
  | mark
  deriving DecidableEq, Repr

/-- An entry's repeat; `remaining` is none when unbounded (R19). -/
structure Repetition where
  interval : Nat
  remaining : Option Nat
  deriving DecidableEq, Repr

/-- An entry's guard (R19, R33). -/
structure LineGuard where
  line : LineId
  level : Level
  deriving DecidableEq, Repr

/-- The late policy (R24, R26). -/
inductive LatePolicy where
  | reject | fire
  deriving DecidableEq, Repr

/-- An action entry (R19). -/
structure Entry where
  tag : Nat
  owner : Port
  action : Action
  due : Nat
  rep : Option Repetition := none
  guard : Option LineGuard := none
  notify : Bool := false
  late : LatePolicy := .reject
  seq : Nat := 0
  deriving DecidableEq, Repr

/-- The machine tick that the schedule is taking: the entries of it still to take, in list order; the entry whose action the
channels have been handed and have not answered (R30, R34); the owner and tag of each MARK taken, in list order, which the journal is
handed when the tick is done (R35; entry 12); and whether the channels have been handed an action of it. -/
structure Work where
  time : Nat
  ordinal : Nat
  rest : List Entry
  handed : Option Entry := none
  clk : Clock := {}
  marks : List (Port × Nat) := []
  reached : Bool := false
  deriving DecidableEq, Repr

/-- The Action Schedule (R19). -/
structure Schedule where
  entries : List Entry := []
  tagCounter : Nat := 1
  insertions : Nat := 0
  counts : Vector Nat 4 := Vector.replicate 4 0
  tick : Option Tick := none
  work : Option Work := none
  deriving DecidableEq, Repr

/-! ### Output channels (03) -/

/-- The release policy (R51). -/
inductive ReleasePolicy where
  | keep | safe
  deriving DecidableEq, Repr

/-- The kind of a waveform, with what only a train carries (R52). -/
inductive WaveKind where
  | pulse
  | train (onTime period ordered done : Nat)
  deriving DecidableEq, Repr

/-- A waveform record (R52); `active` is its phase. While its edge is due, `ticksLeft` is 0. -/
structure Wave where
  tag : Nat
  owner : Port
  notify : Bool
  kind : WaveKind
  rest : Level
  active : Bool
  ticksLeft : Nat
  start : Nat
  deriving DecidableEq, Repr

/-- A channel record (R51). Its state follows from `lockSet` and `wave`. -/
structure Channel where
  level : Level := false
  wave : Option Wave := none
  safe : Level := false
  policy : ReleasePolicy := .keep
  lockSet : LockSet := 0
  tick : Option Tick := none
  deriving DecidableEq, Repr

/-! ### Leases (04) -/

/-- Why a lease ends (R81). -/
inductive EndCause where
  | release | revoke | teardown
  deriving DecidableEq, Repr

/-- Which hand-over of a lease end is under way (R81): the purge to the schedule, its report, the share to the channel, its
report. -/
inductive EndStage where
  | purgeHanded | purgeReported | shareHanded | shareReported
  deriving DecidableEq, Repr

/-- A lease end in flight (R74, R81). -/
structure Ending where
  cause : EndCause
  old : Port
  stage : EndStage := .purgeHanded
  clk : Clock := {}
  deriving DecidableEq, Repr

/-- A claim entry (R74). -/
structure Claim where
  port : Port
  hold : Nat
  wait : Nat
  since : Nat
  deriving DecidableEq, Repr

/-- A resource record (R74); `revokeDue` marks a revocation that is to be taken (R84). -/
structure Lease where
  holder : Option Port := none
  grantWall : Nat := 0
  holdLimit : Nat := 0
  ending : Option Ending := none
  queue : List Claim := []
  revokeDue : Bool := false
  deriving DecidableEq, Repr

/-! ### Input lines (05) -/

/-- The edge modes (R100). -/
inductive EdgeMode where
  | off | rise | fall | both
  deriving DecidableEq, Repr

/-- A line record (R96); `sampleDue` marks this TCLK period's sample as not yet taken. -/
structure Line where
  raw : Level := false
  qualified : Level := false
  stable : Nat := 0
  mode : EdgeMode := .off
  q : Nat := 0
  d : Nat := 0
  decim : Nat := 0
  sampleDue : Bool := false
  deriving DecidableEq, Repr

/-- A qualified change handed to one trip group (R99, R140). -/
structure LineMsg where
  group : GroupId
  line : LineId
  level : Level
  clk : Clock := {}
  deriving DecidableEq, Repr

/-! ### The capture journal (06) -/

/-- The fields of a journal entry by kind (R113); times of an entry are machine time and the low 32 bits of wall time. -/
inductive EntryBody where
  | edge (line : LineId) (rising : Bool) (mach wall : Nat) (held : Bool)
  | mark (owner : Port) (tag : Nat) (mach wall : Nat)
  | trip (group : GroupId) (line : LineId) (mach wall : Nat) (held : Bool)
  | gap (lost : Nat) (kinds : KindMask) (wall : Nat)
  deriving DecidableEq, Repr

/-- A journal entry (R112, R113). -/
structure JournalEntry where
  seq : SeqNum
  body : EntryBody
  deriving DecidableEq, Repr

/-- The subscription modes (R115). -/
inductive SubMode where
  | keep | skim
  deriving DecidableEq, Repr

/-- A subscription (R115). -/
structure Subscription where
  mask : KindMask
  mode : SubMode
  cursor : SeqNum
  overtaken : Bool := false
  deriving DecidableEq, Repr

/-- The Capture Journal (R111): the ring from tail to head. -/
structure Journal where
  ring : List JournalEntry := []
  seqCounter : SeqNum := 0
  lostCount : Nat := 0
  lostMask : KindMask := 0
  subs : Vector (Option Subscription) 4 := Vector.replicate 4 none
  deriving DecidableEq, Repr

/-- What an offer says (R118). -/
inductive OfferBody where
  | edge (line : LineId) (rising : Bool)
  | mark (owner : Port) (tag : Nat) (mach : Nat)
  | trip (group : GroupId) (line : LineId)
  deriving DecidableEq, Repr

/-- An offer made to the journal and not yet taken (R118). -/
structure Offer where
  body : OfferBody
  clk : Clock := {}
  deriving DecidableEq, Repr

/-! ### Trip groups (07) -/

/-- The states of a trip group (R135). -/
inductive GroupState where
  | disarmed | armed | tripped
  deriving DecidableEq, Repr

/-- A purge that a trip group has handed to the schedule (R142). -/
structure TripPurge where
  channels : ChanSet
  clk : Clock := {}
  deriving DecidableEq, Repr

/-- A group record (R135), with the lock reports and purges under way (R142). -/
structure Group where
  state : GroupState := .disarmed
  sources : LineSet := 0
  active : Level := true
  channels : ChanSet := 0
  last : Option (LineId × Nat) := none
  locksOut : Nat := 0
  reports : List Clock := []
  purges : List TripPurge := []
  deriving DecidableEq, Repr

/-- A lock (`lock = true`) or an unlock handed to a channel (R139, R141). -/
structure LockMsg where
  group : GroupId
  chan : Chan
  lock : Bool
  clk : Clock := {}
  deriving DecidableEq, Repr

/-! ### Master ports (08) -/

/-- The session states (R149). -/
inductive Session where
  | idle | opened | closing
  deriving DecidableEq, Repr

/-- The closing causes (R149). -/
inductive CloseCause where
  | detach | lapsed
  deriving DecidableEq, Repr

/-- The request kinds (R186). -/
inductive ReqKind where
  | attach | detach | ident | time | pace | setclock | settime | claim | release | leases | submit | cancel
  | cancelChannel | query | schedule | channelConfig | channels | lineConfig | lines | tripConfig | arm | disarm
  | trips | subscribe | unsubscribe | read | notices
  deriving DecidableEq, Repr

/-- The reply codes (R191). -/
inductive ReplyCode where
  | ok | queued | badKind | badLength | badArg | noSession | alreadyOpen | notHolder | notOwner | noTag | already
  | schedFull | quota | late | locked | badPace | lineActive | notDisarmed | locksPending | notSubscribed | subscribed
  deriving DecidableEq, Repr

/-- A request frame without its length and check bytes, which follow from the rest (R152, R184). -/
structure Frame where
  kind : Byte
  seq : Byte
  payload : List Byte
  deriving DecidableEq, Repr

/-- A reply frame without its length and check bytes (R159, R184). -/
structure Reply where
  kind : Byte
  seq : Byte
  code : ReplyCode
  payload : List Byte := []
  deriving DecidableEq, Repr

/-- A block's answer to a request (R157). -/
structure Answer where
  code : ReplyCode
  payload : List Byte := []
  deriving DecidableEq, Repr

/-- Where the request in hand is (R157, R164): handed to its block, answered by it, or a DETACH that waits for its teardown. -/
inductive HandStage where
  | handed (clk : Clock)
  | answered (answer : Answer) (clk : Clock)
  | detaching
  deriving DecidableEq, Repr

/-- The request in hand, whose reply slot is reserved (R156, R157). -/
structure InHand where
  frame : Frame
  stage : HandStage
  deriving DecidableEq, Repr

/-- Where one block's part of a teardown is (R165, R166). -/
inductive PartStage where
  | idle
  | handed (clk : Clock)
  | working
  | reported (clk : Clock)
  deriving DecidableEq, Repr

/-- The four parts of a port's teardown (R165). -/
structure Parts where
  schedule : PartStage := .idle
  leases : PartStage := .idle
  journal : PartStage := .idle
  notices : PartStage := .idle
  deriving DecidableEq, Repr

/-- The transaction in progress (R150 to R153): the status byte and head reply fixed at its start, whether a flush has removed
that reply since, and whether its frame has been judged. -/
structure Transaction where
  status : Byte
  head : Option Reply
  headFlushed : Bool := false
  judged : Bool := false
  deriving DecidableEq, Repr

/-- A port record (R149), with its chip select pin and transaction (R150). -/
structure PortRec where
  session : Session := .idle
  lapsed : Bool := false
  cause : Option CloseCause := none
  term : Option Nat := none
  lastActivity : Nat := 0
  requests : List Frame := []
  replies : List Reply := []
  inHand : Option InHand := none
  partsOut : Nat := 0
  parts : Parts := {}
  crcErr : Bool := false
  discard : Bool := false
  resetFlag : Bool := true
  sessions : Nat := 0
  csLow : Bool := false
  txn : Option Transaction := none
  deriving DecidableEq, Repr

/-! ### Notices (09) -/

/-- The fifteen kinds of notice (9.4). -/
inductive NoticeKind where
  | fired | late | skipped | superseded | dropped | waveDone | granted | revoked | claimExpired | pace | timeEnd
  | tripped | unlocked | journalReady | noticesLost
  deriving DecidableEq, Repr

/-- A notice record (R172). -/
structure Notice where
  kind : NoticeKind
  subject : Nat
  detail : Nat
  stamp : Nat
  deriving DecidableEq, Repr

/-- A post made and not yet taken (R173): the posting block, the port, the port's session count when the post was made. -/
structure Post where
  block : PostBlock
  port : Port
  session : Nat
  notice : Notice
  clk : Clock
  deriving DecidableEq, Repr

/-- A port's notice queue and its journal-ready latch (R171). -/
structure NoticeQueue where
  notices : List Notice := []
  latch : Bool := false
  deriving DecidableEq, Repr

/-! ### The whole part -/

/-- The state of the part, and the queue of commands that wait. -/
structure State where
  inReset : Bool := false
  resetSeenLow : Bool := true
  tb : Timebase := {}
  sched : Schedule := {}
  chans : Vector Channel 16 := Vector.replicate 16 {}
  leases : Vector Lease 17 := Vector.replicate 17 {}
  lines : Vector Line 12 := Vector.replicate 12 {}
  journal : Journal := {}
  groups : Vector Group 4 := Vector.replicate 4 {}
  ports : Vector PortRec 4 := Vector.replicate 4 {}
  queues : Vector NoticeQueue 4 := Vector.replicate 4 {}
  posts : List Post := []
  offers : List Offer := []
  lineMsgs : List LineMsg := []
  lockMsgs : List LockMsg := []
  clocks : Vector Clock 15 := Vector.replicate 15 {}
  pending : List Instr := []
  deriving DecidableEq, Repr

/-- The part has no fault: the spec names no condition that stops it. Nobody raises one. -/
inductive Fault where
  deriving DecidableEq, Repr

/-- A command without a meaning. -/
inductive Refusal where
  /-- Raised by an arm of exec whose command is not modelled yet; no arm is. Safe: the run stops. -/
  | notModelled (mnemonic : String)
  deriving DecidableEq, Repr

/-- The part at RESET release (R18, R19, R51, R74, R96, R111, R135, R149, R171): every field at its reset value, which is each
record's default. The input pins are low at the first sample (DESIGN CHOICE, entry 4) and the chip selects inactive (entry 5). -/
def State.reset : State := {}

end Sys2Proof.Machine
end

