-- ==== Sys2Proof/Machine/Bytes.lean ====
section
/-! DEFINITION. Bytes: multi-byte fields, the CRC-8, and the layout of request and reply frames (R152, R184, R186). -/

namespace Sys2Proof.Machine

/-- The number that bytes spell, most significant byte first (spec/10, first paragraph). -/
def numberOf (bytes : List Byte) : Nat :=
  bytes.foldl (fun n b => n * 256 + b.toNat) 0

/-- `len` bytes that spell `n`, most significant byte first. -/
def bytesOf : (len : Nat) → (n : Nat) → List Byte
  | 0, _ => []
  | len + 1, n => BitVec.ofNat 8 (n / 256 ^ len) :: bytesOf len n

/-- The field of `len` bytes that begins at byte `at_` of a payload. -/
def fieldOf (payload : List Byte) (at_ len : Nat) : Nat :=
  numberOf ((payload.drop at_).take len)

/-- One shift of the CRC-8: combined with 0x07 when the bit shifted out is 1 (R184). -/
def crcShift (r : Byte) : Byte :=
  if r.msb then (r <<< 1) ^^^ 0x07#8 else r <<< 1

/-- The CRC-8's running value after one more byte (R184). -/
def crcByte (r b : Byte) : Byte :=
  Nat.repeat crcShift 8 (r ^^^ b)

/-- The CRC-8 of bytes, from the initial value 0x00 (R184). -/
def crc8 (bytes : List Byte) : Byte :=
  bytes.foldl crcByte 0

/-- The bytes of a request frame before its check byte (R184). -/
def Frame.head (f : Frame) : List Byte :=
  f.kind :: f.seq :: BitVec.ofNat 8 f.payload.length :: f.payload

/-- The bytes of a request frame, check byte last (R152, R184). -/
def Frame.bytes (f : Frame) : List Byte :=
  f.head ++ [crc8 f.head]

/-- The code of a reply code (R191). -/
def ReplyCode.byte : ReplyCode → Byte
  | .ok => 0x00
  | .queued => 0x01
  | .badKind => 0x10
  | .badLength => 0x11
  | .badArg => 0x12
  | .noSession => 0x13
  | .alreadyOpen => 0x14
  | .notHolder => 0x20
  | .notOwner => 0x21
  | .noTag => 0x22
  | .already => 0x23
  | .schedFull => 0x30
  | .quota => 0x31
  | .late => 0x32
  | .locked => 0x33
  | .badPace => 0x40
  | .lineActive => 0x41
  | .notDisarmed => 0x42
  | .locksPending => 0x43
  | .notSubscribed => 0x50
  | .subscribed => 0x51

/-- The bytes of a reply frame before its check byte (R159, R184). -/
def Reply.head (r : Reply) : List Byte :=
  r.kind :: r.seq :: r.code.byte :: BitVec.ofNat 8 r.payload.length :: r.payload

/-- The bytes of a reply frame, check byte last (R159, R184). -/
def Reply.bytes (r : Reply) : List Byte :=
  r.head ++ [crc8 r.head]

/-- What the bytes shifted in so far in a transaction amount to (R152). -/
inductive Scan where
  /-- Nothing was shifted in, or a NULL frame. -/
  | null
  /-- A frame has begun and is not complete. -/
  | short
  /-- The length byte is above 28. -/
  | tooLong
  /-- A frame is complete; whether its CRC-8 is right. -/
  | whole (f : Frame) (crcRight : Bool)
  deriving DecidableEq, Repr

/-- Reads the bytes of a transaction in order (R152); bytes after the frame's last are ignored. -/
def scanFrame : List Byte → Scan
  | [] => .null
  | kind :: rest =>
    if kind = 0 then .null
    else
      match rest with
      | seq :: len :: body =>
        if Config.maxPayload < len.toNat then .tooLong
        else if body.length < len.toNat + 1 then .short
        else
          let payload := body.take len.toNat
          .whole ⟨kind, seq, payload⟩ (crc8 (kind :: seq :: len :: payload) == body.getD len.toNat 0)
      | _ => .short

end Sys2Proof.Machine
end

