-- ==== Sys2Proof/Machine/Ops.lean ====
section
/-! DEFINITION. The operations all blocks share: reading and replacing one record, the causal past of events, posting a notice,
taking a request that an engine has handed and answering it. -/

namespace Sys2Proof.Machine

/-! ### Records -/

/-- A table with every record changed. -/
def mapRecords {α : Type} {n : Nat} (v : Vector α n) (f : Fin n → α → α) : Vector α n :=
  Vector.ofFn fun i => f i v[i]

/-- The record of channel `c`. -/
def State.chan (s : State) (c : Chan) : Channel := s.chans[c]

/-- Channel `c`'s record replaced. -/
def State.setChan (s : State) (c : Chan) (x : Channel) : State := { s with chans := s.chans.set c x }

/-- The record of resource `r`. -/
def State.lease (s : State) (r : ResId) : Lease := s.leases[r]

/-- Resource `r`'s record replaced. -/
def State.setLease (s : State) (r : ResId) (x : Lease) : State := { s with leases := s.leases.set r x }

/-- The record of line `i`. -/
def State.line (s : State) (i : LineId) : Line := s.lines[i]

/-- Line `i`'s record replaced. -/
def State.setLine (s : State) (i : LineId) (x : Line) : State := { s with lines := s.lines.set i x }

/-- The record of group `g`. -/
def State.group (s : State) (g : GroupId) : Group := s.groups[g]

/-- Group `g`'s record replaced. -/
def State.setGroup (s : State) (g : GroupId) (x : Group) : State := { s with groups := s.groups.set g x }

/-- The record of port `p`. -/
def State.port (s : State) (p : Port) : PortRec := s.ports[p]

/-- Port `p`'s record replaced. -/
def State.setPort (s : State) (p : Port) (x : PortRec) : State := { s with ports := s.ports.set p x }

/-- The notice queue of port `p`. -/
def State.queue (s : State) (p : Port) : NoticeQueue := s.queues[p]

/-- Port `p`'s notice queue replaced. -/
def State.setQueue (s : State) (p : Port) (x : NoticeQueue) : State := { s with queues := s.queues.set p x }

/-- The subscription of port `p` (R115). -/
def State.sub (s : State) (p : Port) : Option Subscription := s.journal.subs[p]

/-- Port `p`'s subscription replaced. -/
def State.setSub (s : State) (p : Port) (x : Option Subscription) : State :=
  { s with journal := { s.journal with subs := s.journal.subs.set p x } }

/-- The timeline resource T (R74, R186). -/
def timeline : ResId := Fin.last 16

/-- A channel as a resource (R186). -/
def resOf (c : Chan) : ResId := c.castSucc

/-- The holder of a resource (R74). -/
def State.holder (s : State) (r : ResId) : Option Port := (s.lease r).holder

/-- The holder of a channel, read from the Lease Table (R51, R53). -/
def State.chanHolder (s : State) (c : Chan) : Option Port := s.holder (resOf c)

/-- The port holds T (R10). -/
def State.isCoordinator (s : State) (p : Port) : Bool := s.holder timeline == some p

/-- The session state of a port (R160). -/
def State.session (s : State) (p : Port) : Session := (s.port p).session

/-- The port is OPEN (R160). -/
def State.isOpen (s : State) (p : Port) : Bool := s.session p == .opened

/-- The port is CLOSING (R160). -/
def State.isClosing (s : State) (p : Port) : Bool := s.session p == .closing

/-- The running condition (R2). -/
def Timebase.running (tb : Timebase) : Bool :=
  match tb.mode with
  | .hold => false
  | .run => true
  | .step => true
  | .creep => !tb.creepHolding

/-- Wall ticks since a wall time, on the 48-bit count (R1; entry 14: DESIGN CHOICE across its return to 0, safe before it). -/
def State.wallSince (s : State) (w : Nat) : Nat :=
  (s.tb.wallTime + Config.wallModulus - w) % Config.wallModulus

/-- The low 32 bits of wall time (R1, R114). -/
def State.wallLow (s : State) : Nat := s.tb.wallTime % 2 ^ 32

/-- A detail that is given as 16,777,215 when larger (R172). -/
def cap24 (n : Nat) : Nat := min n Config.max24

/-! ### The causal past (R174; entry 12) -/

/-- Posts of block `b` in a past. -/
def Clock.get (k : Clock) : PostBlock → Nat
  | .timebase => k.timebase
  | .schedule => k.schedule
  | .channels => k.channels
  | .leases => k.leases
  | .groups => k.groups
  | .journal => k.journal

/-- One more post of block `b`. -/
def Clock.bump (k : Clock) : PostBlock → Clock
  | .timebase => { k with timebase := k.timebase + 1 }
  | .schedule => { k with schedule := k.schedule + 1 }
  | .channels => { k with channels := k.channels + 1 }
  | .leases => { k with leases := k.leases + 1 }
  | .groups => { k with groups := k.groups + 1 }
  | .journal => { k with journal := k.journal + 1 }

/-- Both pasts together. -/
def Clock.join (a b : Clock) : Clock where
  timebase := max a.timebase b.timebase
  schedule := max a.schedule b.schedule
  channels := max a.channels b.channels
  leases := max a.leases b.leases
  groups := max a.groups b.groups
  journal := max a.journal b.journal

/-- The place of an agent in State's table of pasts. -/
def Agent.index : Agent → Fin 15
  | .timebase => 0
  | .schedule => 1
  | .channels => 2
  | .leases => 3
  | .lines => 4
  | .journal => 5
  | .groups => 6
  | .port p => ⟨7 + p.val, by omega⟩
  | .queue p => ⟨11 + p.val, by omega⟩

/-- The block that posts, as an agent. -/
def agentOf : PostBlock → Agent
  | .timebase => .timebase
  | .schedule => .schedule
  | .channels => .channels
  | .leases => .leases
  | .groups => .groups
  | .journal => .journal

/-- The past of what an agent does next. -/
def State.clock (s : State) (a : Agent) : Clock := s.clocks[a.index]

/-- The agent takes something handed over by an event with past `k`. -/
def State.hear (s : State) (a : Agent) (k : Clock) : State :=
  { s with clocks := s.clocks.set a.index ((s.clock a).join k) }

/-- The post `x` was made in the past of the post `y` (R174). -/
def Post.precedes (x y : Post) : Bool :=
  decide (x.clk.get x.block ≤ y.clk.get x.block)

/-! ### Posting (R173) -/

/-- Block `b` posts a notice to port `p`. The post carries the port's session count as the block reads it now. -/
def State.post (s : State) (b : PostBlock) (p : Port) (n : Notice) : State :=
  let k := (s.clock (agentOf b)).bump b
  { s with
    clocks := s.clocks.set (agentOf b).index k
    posts := s.posts ++ [{ block := b, port := p, session := (s.port p).sessions, notice := n, clk := k }] }

/-- Block `b` posts a notice to each of some ports, in that order. -/
def State.postEach (s : State) (b : PostBlock) (n : Notice) (ps : List Port) : State :=
  ps.foldl (fun t p => t.post b p n) s

/-- The ports that are OPEN at this event, in ascending order (R160). -/
def State.openPorts (s : State) : List Port :=
  (List.finRange 4).filter fun p => s.isOpen p

/-! ### Requests and answers (R157) -/

/-- A refusal carries no payload (R159). -/
def refuse (code : ReplyCode) : Answer := { code := code }

/-- An OK with its payload (R159, R188). -/
def okWith (payload : List Byte) : Answer := { code := .ok, payload := payload }

/-- An OK without payload (R188). -/
def okEmpty : Answer := { code := .ok }

/-- The request codes (R186). -/
def ReqKind.byte : ReqKind → Byte
  | .attach => 0x01
  | .detach => 0x02
  | .ident => 0x03
  | .time => 0x10
  | .pace => 0x11
  | .setclock => 0x12
  | .settime => 0x13
  | .claim => 0x20
  | .release => 0x21
  | .leases => 0x22
  | .submit => 0x30
  | .cancel => 0x31
  | .cancelChannel => 0x32
  | .query => 0x33
  | .schedule => 0x34
  | .channelConfig => 0x40
  | .channels => 0x41
  | .lineConfig => 0x50
  | .lines => 0x51
  | .tripConfig => 0x60
  | .arm => 0x61
  | .disarm => 0x62
  | .trips => 0x63
  | .subscribe => 0x70
  | .unsubscribe => 0x71
  | .read => 0x72
  | .notices => 0x78

/-- The request of kind `k` that port `p`'s engine has handed to its block and the block has not taken yet: its payload and
its past (R157). -/
def State.handedRequest (s : State) (p : Port) (k : ReqKind) : Option (List Byte × Clock) :=
  match (s.port p).inHand with
  | some { frame := f, stage := .handed clk } => if f.kind = k.byte then some (f.payload, clk) else none
  | _ => none

/-- The block's answer to the request in hand goes to the engine, which has not taken it yet (R157). -/
def State.answer (s : State) (p : Port) (a : Answer) (clk : Clock) : State :=
  match (s.port p).inHand with
  | some h => s.setPort p { s.port p with inHand := some { h with stage := .answered a clk } }
  | none => s

/-- A block takes the request of kind `k` handed to it by port `p`'s engine, as one event: `body` says what it does with the
payload and what it answers. When no such request has been handed, nothing happens (entry 2). -/
def takeRequest (k : ReqKind) (agent : Agent) (p : Port) (body : List Byte → State → State × Answer) (s : State) : State :=
  match s.handedRequest p k with
  | none => s
  | some (payload, clk) =>
    let done := body payload (s.hear agent clk)
    done.1.answer p done.2 (done.1.clock agent)

end Sys2Proof.Machine
end

