-- ==== Sys2Proof/Machine/Flags.lean ====
section
/-! DEFINITION. The status byte and the pins that follow from State (R51, R150, R154, R179, R185). -/

namespace Sys2Proof.Machine

/-- A flag as a bit of a number. -/
def bit (b : Bool) (place : Nat) : Nat := if b then 2 ^ place else 0

/-- The ATTN condition of a port: its notice queue is not empty (R154, R179). -/
def State.attn (s : State) (p : Port) : Bool := !(s.queue p).notices.isEmpty

/-- The SESSION field of the status byte (R154, R185). -/
def PortRec.sessionBits (x : PortRec) : Nat :=
  match x.session, x.lapsed with
  | .idle, false => 0
  | .opened, _ => 1
  | .closing, _ => 2
  | .idle, true => 3

/-- The status byte as it stands now (R154, R185). -/
def State.statusByte (s : State) (p : Port) : Byte :=
  let x := s.port p
  BitVec.ofNat 8 (bit (!x.replies.isEmpty) 7 + bit (s.attn p) 6 + 16 * x.sessionBits
    + bit (x.requests.length == Config.queueDepth) 3 + bit x.crcErr 2 + bit x.discard 1 + bit x.resetFlag 0)

/-- The `k`-th byte shifted out in the transaction in progress: the status byte, the fixed head reply, then 0x00 (R150). -/
def Transaction.outByte (t : Transaction) (k : Nat) : Byte :=
  match k with
  | 0 => t.status
  | j + 1 =>
    match t.head with
    | some r => r.bytes.getD j 0
    | none => 0

/-- The `k`-th byte on MISO since the chip select fell; none while the pin is at high impedance, which it is in the reset state and
while the chip select is high (R18, R192). In a transaction it is that transaction's byte (R150); while a chip select that was low at
RESET release stays low there is none, and the byte driven is a free value (entry 31). -/
def State.misoByte (s : State) (p : Port) (k : Nat) : Option Byte :=
  if s.inReset || !(s.port p).csLow then none
  else
    some (match (s.port p).txn with
      | some t => t.outByte k
      | none => Config.misoIdle p k s.tb.wallTime)

/-- The level of an output pin (R51): the channel's level, low in the reset state (R18). -/
def State.outPin (s : State) (c : Chan) : Level := !s.inReset && (s.chan c).level

/-- The level of a port's ATTN pin: low while its notice queue is not empty, high (inactive) otherwise and in the reset state
(R18, R179). -/
def State.attnPin (s : State) (p : Port) : Level := s.inReset || !s.attn p

end Sys2Proof.Machine
end

