-- ==== Sys2Proof/Machine/Operands.lean ====
section
/-! DEFINITION. The operands of requests: kind codes, payload lengths, and each request's arguments read from its payload, none
when an argument is out of range (R186, R187). -/

namespace Sys2Proof.Machine

/-- Every request kind (R186). -/
def ReqKind.all : List ReqKind :=
  [.attach, .detach, .ident, .time, .pace, .setclock, .settime, .claim, .release, .leases, .submit, .cancel,
   .cancelChannel, .query, .schedule, .channelConfig, .channels, .lineConfig, .lines, .tripConfig, .arm, .disarm,
   .trips, .subscribe, .unsubscribe, .read, .notices]

/-- The request kind that a kind byte names (R158, R186). -/
def kindOf (b : Byte) : Option ReqKind :=
  ReqKind.all.find? fun k => k.byte == b

/-- The body length of an action kind code (R187); a code above 4 has 0. -/
def submitBodyLength (code : Nat) : Nat :=
  match code with
  | 0 => 2
  | 1 => 4
  | 2 => 9
  | 3 => 4
  | _ => 0

/-- Where a SUBMIT's parts lie: byte 1's bits 2 and 3 announce the repeat and the guard (R187). -/
def submitHasRepeat (payload : List Byte) : Bool := (fieldOf payload 1 1).testBit 2

/-- The guard bit of a SUBMIT (R187). -/
def submitHasGuard (payload : List Byte) : Bool := (fieldOf payload 1 1).testBit 3

/-- Where a SUBMIT's repeat part begins (R187). -/
def submitRepeatAt (payload : List Byte) : Nat := 8 + submitBodyLength (fieldOf payload 0 1)

/-- Where a SUBMIT's guard part begins (R187). -/
def submitGuardAt (payload : List Byte) : Nat :=
  submitRepeatAt payload + (if submitHasRepeat payload then 6 else 0)

/-- The allowed length of a SUBMIT payload, worked out from the payload itself (R187). -/
def submitLength (payload : List Byte) : Nat :=
  submitGuardAt payload + (if submitHasGuard payload then 2 else 0)

/-- The payload length is one that the kind allows (R186, R187). -/
def lengthOk (k : ReqKind) (payload : List Byte) : Bool :=
  match k with
  | .attach => payload.length == 3
  | .detach => payload.length == 0
  | .ident => payload.length == 0
  | .time => payload.length == 0
  | .pace => payload.length == 2
  | .setclock => payload.length == 6
  | .settime => payload.length == 6
  | .claim => payload.length == 7
  | .release => payload.length == 1
  | .leases => payload.length == 1
  | .submit => decide (2 ≤ payload.length) && payload.length == submitLength payload
  | .cancel => payload.length == 2
  | .cancelChannel => payload.length == 1
  | .query => payload.length == 2
  | .schedule => payload.length == 0
  | .channelConfig => payload.length == 3
  | .channels => payload.length == 0
  | .lineConfig => payload.length == 4
  | .lines => payload.length == 0
  | .tripConfig => payload.length == 6
  | .arm => payload.length == 1
  | .disarm => payload.length == 1
  | .trips => payload.length == 0
  | .subscribe => payload.length == 4
  | .unsubscribe => payload.length == 0
  | .read => payload.length == 1
  | .notices => payload.length == 1

/-- The number as one of `n` things, none when there is no such thing. -/
def asFin (n : Nat) (x : Nat) : Option (Fin n) :=
  if h : x < n then some ⟨x, h⟩ else none

/-- A level code (R186). -/
def asLevel (x : Nat) : Option Level :=
  match x with
  | 0 => some false
  | 1 => some true
  | _ => none

/-- A pace mode code (R186). -/
def asPaceMode (x : Nat) : Option PaceMode :=
  match x with
  | 0 => some .hold
  | 1 => some .run
  | 2 => some .step
  | 3 => some .creep
  | _ => none

/-- A release policy code (R186). -/
def asPolicy (x : Nat) : Option ReleasePolicy :=
  match x with
  | 0 => some .keep
  | 1 => some .safe
  | _ => none

/-- An edge mode code (R186). -/
def asEdgeMode (x : Nat) : Option EdgeMode :=
  match x with
  | 0 => some .off
  | 1 => some .rise
  | 2 => some .fall
  | 3 => some .both
  | _ => none

/-- A subscription mode code (R186). -/
def asSubMode (x : Nat) : Option SubMode :=
  match x with
  | 0 => some .keep
  | 1 => some .skim
  | _ => none

/-- ATTACH's term, 64 to 16,777,215 (R161). -/
def attachTerm (payload : List Byte) : Option Nat :=
  let term := fieldOf payload 0 3
  if Config.minTerm ≤ term then some term else none

/-- PACE's mode and factor; the factor is examined for CREEP alone (R11). -/
def paceArgs (payload : List Byte) : Option (PaceMode × Nat) :=
  let factor := fieldOf payload 1 1
  match asPaceMode (fieldOf payload 0 1) with
  | none => none
  | some .creep => if 2 ≤ factor ∧ factor ≤ 16 then some (.creep, factor) else none
  | some mode => some (mode, factor)

/-- SETCLOCK's TDIV and CYCLE (R14). -/
def setclockArgs (payload : List Byte) : Option (Nat × Nat) :=
  let tdiv := fieldOf payload 0 2
  let cycle := fieldOf payload 2 4
  if 1 ≤ tdiv ∧ tdiv ≤ 256 ∧ 16 ≤ cycle ∧ cycle ≤ 16777216 then some (tdiv, cycle) else none

/-- SETTIME's machine time: every value is in range (R15, R186). -/
def settimeArg (payload : List Byte) : Nat := fieldOf payload 0 6

/-- CLAIM's resource, hold limit and wait limit; every 3-byte limit is in range (R76, R186). -/
def claimArgs (payload : List Byte) : Option (ResId × Nat × Nat) :=
  (asFin 17 (fieldOf payload 0 1)).map fun r => (r, fieldOf payload 1 3, fieldOf payload 4 3)

/-- The resource of RELEASE and LEASES (R80, R92). -/
def resourceArg (payload : List Byte) : Option ResId := asFin 17 (fieldOf payload 0 1)

/-- The tag of CANCEL and QUERY: every value is in range (R186). -/
def tagArg (payload : List Byte) : Nat := fieldOf payload 0 2

/-- What CANCEL_CHANNEL names (R42): one channel, or ALL, which is `some none`. -/
def cancelChannelArg (payload : List Byte) : Option (Option Chan) :=
  let x := fieldOf payload 0 1
  if x = 0xFF then some none else (asFin 16 x).map some

/-- CHANNEL_CONFIG's channel, safe level and release policy (R67). -/
def channelConfigArgs (payload : List Byte) : Option (Chan × Level × ReleasePolicy) :=
  match asFin 16 (fieldOf payload 0 1), asLevel (fieldOf payload 1 1), asPolicy (fieldOf payload 2 1) with
  | some c, some level, some policy => some (c, level, policy)
  | _, _, _ => none

/-- LINE_CONFIG's line, edge mode, q and d (R105); q takes every value of its byte. -/
def lineConfigArgs (payload : List Byte) : Option (LineId × EdgeMode × Nat × Nat) :=
  match asFin 12 (fieldOf payload 0 1), asEdgeMode (fieldOf payload 1 1), fieldOf payload 3 1 with
  | some i, some mode, d => if d ≤ 7 then some (i, mode, fieldOf payload 2 1, d) else none
  | _, _, _ => none

/-- TRIP_CONFIG's group, sources, active level and channels (R136); a source bit above 11 is out of range. -/
def tripConfigArgs (payload : List Byte) : Option (GroupId × LineSet × Level × ChanSet) :=
  match asFin 4 (fieldOf payload 0 1), asLevel (fieldOf payload 3 1) with
  | some g, some active =>
    let sources := fieldOf payload 1 2
    if sources < 2 ^ 12 then some (g, BitVec.ofNat 12 sources, active, BitVec.ofNat 16 (fieldOf payload 4 2)) else none
  | _, _ => none

/-- The group of ARM and DISARM (R137, R138). -/
def groupArg (payload : List Byte) : Option GroupId := asFin 4 (fieldOf payload 0 1)

/-- SUBSCRIBE's mask, mode and start (`true` for OLDEST) (R116); the mask holds at least one of the fourteen kind bits and no
other. -/
def subscribeArgs (payload : List Byte) : Option (KindMask × SubMode × Bool) :=
  let mask := fieldOf payload 0 2
  match asSubMode (fieldOf payload 2 1), asLevel (fieldOf payload 3 1) with
  | some mode, some oldest =>
    if 0 < mask ∧ mask < 2 ^ 14 then some (BitVec.ofNat 14 mask, mode, oldest) else none
  | _, _ => none

/-- READ's n, 1 to 3 (R125). -/
def readArg (payload : List Byte) : Option Nat :=
  let n := fieldOf payload 0 1
  if 1 ≤ n ∧ n ≤ 3 then some n else none

/-- NOTICES's n, 1 to 4 (R178). -/
def noticesArg (payload : List Byte) : Option Nat :=
  let n := fieldOf payload 0 1
  if 1 ≤ n ∧ n ≤ 4 then some n else none

/-- The action of a SUBMIT, from its kind code and body (R24, R187). -/
def submitAction (payload : List Byte) : Option Action :=
  match fieldOf payload 0 1 with
  | 0 =>
    match asFin 16 (fieldOf payload 8 1), asLevel (fieldOf payload 9 1) with
    | some c, some level => some (.set c level)
    | _, _ => none
  | 1 =>
    match asFin 16 (fieldOf payload 8 1), fieldOf payload 9 3 with
    | some c, width => if 1 ≤ width then some (.pulse c width) else none
    | _, _ => none
  | 2 =>
    match asFin 16 (fieldOf payload 8 1), fieldOf payload 9 3, fieldOf payload 12 3 with
    | some c, period, onTime =>
      if 2 ≤ period ∧ 1 ≤ onTime ∧ onTime ≤ period - 1 then some (.train c period onTime (fieldOf payload 15 2)) else none
    | _, _, _ => none
  | 3 =>
    let mask := fieldOf payload 8 2
    if mask = 0 then none else some (.groupSet (BitVec.ofNat 16 mask) (BitVec.ofNat 16 (fieldOf payload 10 2)))
  | 4 => some .mark
  | _ => none

/-- The repeat part of a SUBMIT (R24, R187): none when out of range, `some none` when absent. -/
def submitRepeat (payload : List Byte) : Option (Option Repetition) :=
  if submitHasRepeat payload then
    let interval := fieldOf payload (submitRepeatAt payload) 4
    let remaining := fieldOf payload (submitRepeatAt payload + 4) 2
    if interval = 0 then none else some (some ⟨interval, if remaining = 0 then none else some remaining⟩)
  else some none

/-- The guard part of a SUBMIT (R24, R187): none when out of range, `some none` when absent. -/
def submitGuard (payload : List Byte) : Option (Option LineGuard) :=
  if submitHasGuard payload then
    match asFin 12 (fieldOf payload (submitGuardAt payload) 1), asLevel (fieldOf payload (submitGuardAt payload + 1) 1) with
    | some line, some level => some (some ⟨line, level⟩)
    | _, _ => none
  else some none

/-- The entry a SUBMIT asks for, without its tag and insertion sequence (R24, R187): none when the first check fails, which an
unused options bit also does. -/
def submitEntry (p : Port) (payload : List Byte) : Option Entry :=
  let options := fieldOf payload 1 1
  match submitAction payload, submitRepeat payload, submitGuard payload with
  | some action, some rep, some guard =>
    if options < 16 then
      some
        { tag := 0, owner := p, action := action, due := fieldOf payload 2 6, rep := rep, guard := guard,
          notify := options.testBit 0, late := if options.testBit 1 then .fire else .reject }
    else none
  | _, _, _ => none

end Sys2Proof.Machine
end

