-- ==== Sys2Proof/Machine/Formats.lean ====
section
/-! DEFINITION. The layouts of reply payloads, journal entries and notice records (R168, R188, R189, R190). -/

namespace Sys2Proof.Machine

/-- The code of a port, 0xFF for none (R186). -/
def portCode : Option Port → Nat
  | some p => p.val
  | none => 0xFF

/-- The code of a pace mode (R186). -/
def PaceMode.code : PaceMode → Nat
  | .hold => 0
  | .run => 1
  | .step => 2
  | .creep => 3

/-- The code of an edge mode (R186). -/
def EdgeMode.code : EdgeMode → Nat
  | .off => 0
  | .rise => 1
  | .fall => 2
  | .both => 3

/-- The code of a lease end's cause, 0 for no lease end (R188). -/
def EndCause.code : EndCause → Nat
  | .release => 1
  | .revoke => 2
  | .teardown => 3

/-- The code of an action kind (R187). -/
def Action.code : Action → Nat
  | .set _ _ => 0
  | .pulse _ _ => 1
  | .train _ _ _ _ => 2
  | .groupSet _ _ => 3
  | .mark => 4

/-- The code of a group state (R188). -/
def GroupState.code : GroupState → Nat
  | .disarmed => 0
  | .armed => 1
  | .tripped => 2

/-- The code of a notice kind (R190). -/
def NoticeKind.code : NoticeKind → Nat
  | .fired => 0x01
  | .late => 0x02
  | .skipped => 0x03
  | .superseded => 0x04
  | .dropped => 0x05
  | .waveDone => 0x06
  | .granted => 0x10
  | .revoked => 0x11
  | .claimExpired => 0x12
  | .pace => 0x20
  | .timeEnd => 0x21
  | .tripped => 0x30
  | .unlocked => 0x31
  | .journalReady => 0x40
  | .noticesLost => 0x7F

/-- The states of a channel (R51). -/
inductive ChannelState where
  | idle | pulsing | training | locked
  deriving DecidableEq, Repr

/-- The state of a channel: LOCKED while its lock set is not empty, PULSING or TRAINING while a waveform is in flight, IDLE
otherwise (R51). -/
def Channel.state (x : Channel) : ChannelState :=
  if x.lockSet ≠ 0 then .locked
  else
    match x.wave with
    | none => .idle
    | some w =>
      match w.kind with
      | .pulse => .pulsing
      | .train _ _ _ _ => .training

/-- The code of a channel state (R188). -/
def ChannelState.code : ChannelState → Nat
  | .idle => 0
  | .pulsing => 1
  | .training => 2
  | .locked => 3

/-- The body of a SUBMIT payload (R187). -/
def Action.body : Action → List Byte
  | .set c level => bytesOf 1 c.val ++ bytesOf 1 (bit level 0)
  | .pulse c width => bytesOf 1 c.val ++ bytesOf 3 width
  | .train c period onTime pulses => bytesOf 1 c.val ++ bytesOf 3 period ++ bytesOf 3 onTime ++ bytesOf 2 pulses
  | .groupSet mask values => bytesOf 2 mask.toNat ++ bytesOf 2 values.toNat
  | .mark => []

/-- The SUBMIT payload by which a master asks for an entry (R187). -/
def Entry.submitPayload (e : Entry) : List Byte :=
  bytesOf 1 e.action.code
    ++ bytesOf 1 (bit e.notify 0 + bit (e.late == .fire) 1 + bit e.rep.isSome 2 + bit e.guard.isSome 3)
    ++ bytesOf 6 e.due ++ e.action.body
    ++ (match e.rep with
        | some r => bytesOf 4 r.interval ++ bytesOf 2 (r.remaining.getD 0)
        | none => [])
    ++ (match e.guard with
        | some g => bytesOf 1 g.line.val ++ bytesOf 1 (bit g.level 0)
        | none => [])

/-- ATTACH's payload (R161, R188). -/
def attachPayload (p : Port) (wall : Nat) : List Byte :=
  bytesOf 1 p.val ++ bytesOf 6 wall

/-- IDENT's payload (R168, R188). -/
def identPayload : List Byte :=
  bytesOf 1 0x46 ++ bytesOf 2 0x1612 ++ bytesOf 1 3 ++ bytesOf 1 4 ++ bytesOf 1 16 ++ bytesOf 1 12 ++ bytesOf 1 4
    ++ bytesOf 1 192 ++ bytesOf 1 64 ++ bytesOf 2 512

/-- TIME's payload: the snapshot of the Timebase and the coordinator (R16, R188). -/
def State.timePayload (s : State) : List Byte :=
  let tb := s.tb
  bytesOf 6 tb.machTime ++ bytesOf 6 tb.wallTime ++ bytesOf 1 tb.mode.code ++ bytesOf 1 (bit tb.running 0)
    ++ bytesOf 1 tb.pendingSteps ++ bytesOf 2 tb.tdiv ++ bytesOf 4 tb.cycle ++ bytesOf 1 tb.factor
    ++ bytesOf 1 (portCode (s.holder timeline))

/-- One queue entry of LEASES (R92, R188). -/
def State.claimBytes (s : State) (c : Claim) : List Byte :=
  bytesOf 1 c.port.val ++ bytesOf 3 c.hold ++ bytesOf 3 c.wait ++ bytesOf 3 (cap24 (s.wallSince c.since))

/-- LEASES's payload (R92, R188). -/
def State.leasesPayload (s : State) (r : ResId) : List Byte :=
  let x := s.lease r
  bytesOf 1 (portCode x.holder)
    ++ (match x.holder with
        | some _ => bytesOf 6 x.grantWall ++ bytesOf 3 (cap24 (s.wallSince x.grantWall)) ++ bytesOf 3 x.holdLimit
        | none => bytesOf 6 0 ++ bytesOf 3 0 ++ bytesOf 3 0)
    ++ bytesOf 1 (match x.ending with
        | some e => e.cause.code
        | none => 0)
    ++ bytesOf 1 x.queue.length ++ x.queue.flatMap s.claimBytes

/-- QUERY's payload (R47, R188). -/
def State.queryPayload (s : State) (e : Entry) : List Byte :=
  bytesOf 1 e.action.code ++ bytesOf 6 e.due
    ++ (match e.rep with
        | none => bytesOf 1 0 ++ bytesOf 2 0
        | some ⟨_, some n⟩ => bytesOf 1 1 ++ bytesOf 2 n
        | some ⟨_, none⟩ => bytesOf 1 2 ++ bytesOf 2 0)
    ++ bytesOf 1 (bit (decide (e.due ≤ s.tb.machTime)) 0)

/-- SCHEDULE's payload (R48, R188). -/
def State.schedulePayload (s : State) (p : Port) : List Byte :=
  let total := s.sched.entries.length
  let own := s.sched.counts[p]
  bytesOf 1 total ++ bytesOf 1 own ++ bytesOf 1 (Config.scheduleCapacity - total) ++ bytesOf 1 (Config.portQuota - own)
    ++ (match s.sched.entries.find? fun e => e.owner == p with
        | some e => bytesOf 1 1 ++ bytesOf 6 e.due
        | none => bytesOf 1 0 ++ bytesOf 6 0)

/-- The six bytes of one channel in CHANNELS (R72, R188); the holder's code is 15 for none. -/
def State.channelBytes (s : State) (c : Chan) : List Byte :=
  let x := s.chan c
  bytesOf 1 (bit x.level 0 + bit x.safe 1 + bit (x.policy == .safe) 2 + 8 * x.state.code)
    ++ bytesOf 1 (x.lockSet.toNat + 16 * (match s.chanHolder c with
        | some p => p.val
        | none => 15))
    ++ (match x.wave with
        | none => bytesOf 2 0 ++ bytesOf 2 0
        | some w =>
          bytesOf 2 w.tag ++ bytesOf 2 (match w.kind with
            | .pulse => 0
            | .train _ _ _ done => done))

/-- CHANNELS's payload: 16 records, C0 first (R72, R188). -/
def State.channelsPayload (s : State) : List Byte := (List.finRange 16).flatMap s.channelBytes

/-- The five bytes of one line in LINES (R108, R188). -/
def State.lineBytes (s : State) (i : LineId) : List Byte :=
  let x := s.line i
  bytesOf 1 (bit x.raw 0 + bit x.qualified 1 + 4 * x.mode.code + 16 * x.d) ++ bytesOf 1 x.q ++ bytesOf 2 x.stable
    ++ bytesOf 1 x.decim

/-- LINES's payload: 12 records, I0 first (R108, R188). -/
def State.linesPayload (s : State) : List Byte := (List.finRange 12).flatMap s.lineBytes

/-- The thirteen bytes of one group in TRIPS (R147, R188). -/
def State.groupBytes (s : State) (g : GroupId) : List Byte :=
  let x := s.group g
  bytesOf 1 (x.state.code + bit x.active 2 + bit x.last.isSome 3) ++ bytesOf 2 x.sources.toNat ++ bytesOf 2 x.channels.toNat
    ++ (match x.last with
        | some (i, t) => bytesOf 1 i.val ++ bytesOf 6 t
        | none => bytesOf 1 0 ++ bytesOf 6 0)
    ++ bytesOf 1 x.locksOut

/-- TRIPS's payload: 4 records, G0 first (R147, R188). -/
def State.tripsPayload (s : State) : List Byte := (List.finRange 4).flatMap s.groupBytes

/-- The twenty bytes of a journal entry (R189). -/
def JournalEntry.bytes (e : JournalEntry) : List Byte :=
  match e.body with
  | .edge i rising mach wall held =>
    bytesOf 1 0x01 ++ bytesOf 4 e.seq.toNat ++ bytesOf 1 i.val ++ bytesOf 2 0 ++ bytesOf 6 mach ++ bytesOf 4 wall
      ++ bytesOf 1 (bit held 0 + bit rising 1) ++ bytesOf 1 0
  | .mark p tag mach wall =>
    bytesOf 1 0x02 ++ bytesOf 4 e.seq.toNat ++ bytesOf 1 p.val ++ bytesOf 2 tag ++ bytesOf 6 mach ++ bytesOf 4 wall
      ++ bytesOf 1 0 ++ bytesOf 1 0
  | .trip g i mach wall held =>
    bytesOf 1 0x03 ++ bytesOf 4 e.seq.toNat ++ bytesOf 1 g.val ++ bytesOf 2 i.val ++ bytesOf 6 mach ++ bytesOf 4 wall
      ++ bytesOf 1 (bit held 0) ++ bytesOf 1 0
  | .gap lost kinds wall =>
    bytesOf 1 0x04 ++ bytesOf 4 e.seq.toNat ++ bytesOf 1 0 ++ bytesOf 2 lost ++ bytesOf 2 kinds.toNat ++ bytesOf 4 0
      ++ bytesOf 4 wall ++ bytesOf 1 0 ++ bytesOf 1 0

/-- The twelve bytes of a notice record (R190). -/
def Notice.bytes (n : Notice) : List Byte :=
  bytesOf 1 n.kind.code ++ bytesOf 2 n.subject ++ bytesOf 3 n.detail ++ bytesOf 6 n.stamp

/-- SUBSCRIBE's payload (R116, R188). -/
def subscribePayload (cursor : SeqNum) (more : Bool) : List Byte :=
  bytesOf 4 cursor.toNat ++ bytesOf 1 (bit more 0)

/-- READ's payload (R126, R188). -/
def readPayload (more overtaken : Bool) (entries : List JournalEntry) : List Byte :=
  bytesOf 1 (bit more 0 + bit overtaken 1) ++ bytesOf 1 entries.length ++ entries.flatMap JournalEntry.bytes

/-- NOTICES's payload (R178, R188). -/
def noticesPayload (notices : List Notice) : List Byte :=
  bytesOf 1 notices.length ++ notices.flatMap Notice.bytes

end Sys2Proof.Machine
end

