-- ==== Sys2Proof/Machine/Timebase.lean ====
section
/-! DEFINITION. The Timebase: wall time, machine time, the pace and its requests (spec/01). -/

namespace Sys2Proof.Machine

/-! ### The pace -/

/-- The pace becomes HOLD: pending steps 0, a creep abandoned in either phase, the partial machine tick discarded (R2, R5, R7, R8).
A boundary not yet taken is a boundary of the mode left (entry 9). -/
def Timebase.toHold (tb : Timebase) : Timebase :=
  { tb with
    mode := .hold, pendingSteps := 0, creepHolding := false, holdCount := 0, holdEndDue := false,
    machPrescale := 0, machTickDue := false, boundaryDue := false }

/-- The pace becomes a running mode: the prescale count carries on when the running condition held, and starts from 0 when it
begins (R2); pending steps are cleared and a creep is abandoned (R7, R8). -/
def Timebase.toRunning (tb : Timebase) (mode : PaceMode) : Timebase :=
  { tb with
    mode := mode, pendingSteps := 0, creepHolding := false, holdCount := 0, holdEndDue := false, boundaryDue := false,
    machPrescale := if tb.running then tb.machPrescale else 0,
    machTickDue := tb.running && tb.machTickDue }

/-- The table of PACE, by the mode requested and the mode in force; none is BAD_PACE (R9, R11). -/
def Timebase.pace (tb : Timebase) (mode : PaceMode) (factor : Nat) : Option Timebase :=
  if tb.machTime = Config.lastMachTime ∧ mode ≠ .hold then none
  else
    match mode, tb.mode with
    | .hold, .hold => some tb
    | .hold, _ => some tb.toHold
    | .run, .run => some tb
    | .run, _ => some (tb.toRunning .run)
    | .step, .step =>
      if tb.pendingSteps < Config.maxSteps then some { tb with pendingSteps := tb.pendingSteps + 1 } else none
    | .step, .creep => none
    | .step, _ => some { tb.toRunning .step with pendingSteps := 1 }
    | .creep, .step => none
    | .creep, .creep => some { tb with factor := factor }
    | .creep, _ => some { tb.toRunning .creep with factor := factor }

/-- Why a PACE notice is posted (R12). -/
inductive PaceCause where
  | request | stepsDone | timeEnd
  deriving DecidableEq, Repr

/-- The code of a PACE notice's cause (R190). -/
def PaceCause.code : PaceCause → Nat
  | .request => 0
  | .stepsDone => 1
  | .timeEnd => 2

/-- A PACE notice: the new mode; the mode before, the cause and the pending steps after; the machine time of the change (R12,
R190). -/
def paceNotice (after : Timebase) (before : PaceMode) (cause : PaceCause) : Notice where
  kind := .pace
  subject := after.mode.code
  detail := before.code * 65536 + cause.code * 256 + after.pendingSteps
  stamp := after.machTime

/-- A PACE notice to every OPEN port (R12, R160). -/
def State.postPace (s : State) (before : PaceMode) (cause : PaceCause) : State :=
  s.postEach .timebase (paceNotice s.tb before cause) s.openPorts

/-- TIME_END and then a PACE notice of cause TIME_END to every OPEN port (R9). -/
def State.postTimeEnd (s : State) (before : PaceMode) : State :=
  (s.postEach .timebase ⟨.timeEnd, 0, 0, s.tb.machTime⟩ s.openPorts).postPace before .timeEnd

/-! ### Clock events -/

/-- WALL_TICK (R1): the prescale count passes 1023 and returns to 0, and wall time increases by 1, 0 following 2^48 - 1. The
command says that the TCLK periods up to the tick have passed (entry 24). -/
def wallTickEvent (s : State) : State :=
  if s.inReset then s
  else
    { s with tb := { s.tb with
        wallTickDue := false, wallPrescale := 0, wallTime := (s.tb.wallTime + 1) % Config.wallModulus } }

/-- The meaning of WALL_TICK. -/
def execWallTick (s : State) : Host.Outcome State Fault Refusal := .next (wallTickEvent s)

/-- A boundary that a tick has reached in STEP or in CREEP, and that has not been taken (R7, R8). -/
def Timebase.boundaryWaits (tb : Timebase) : Bool :=
  tb.boundaryDue && (tb.mode == .step || tb.mode == .creep)

/-- A channel has taken its part of the last machine tick (R60 to R62): no tick waits to be counted and no edge is due. -/
def Channel.tickDone (x : Channel) : Bool :=
  x.tick.isNone && (match x.wave with
    | none => true
    | some w => decide (0 < w.ticksLeft))

/-- Every hand-over of the last machine tick has been taken (entry 7). -/
def State.tickDone (s : State) : Bool :=
  s.sched.tick.isNone && s.sched.work.isNone && (List.finRange 16).all (fun c => (s.chan c).tickDone)

/-- A machine tick can be taken: the running condition holds, and what the last one brought has been taken (R2; entry 7). -/
def State.tickReady (s : State) : Bool :=
  s.tb.running && !s.tb.timeEndDue && !s.tb.boundaryWaits && decide (s.tb.machTime < Config.lastMachTime) && s.tickDone

/-- The Timebase after a machine tick (R2, R7, R8, R9): machine time and the ordinal increase by 1, the prescale count returns to
0, and the end of time or a boundary of STEP or CREEP is marked as reached. -/
def Timebase.afterTick (tb : Timebase) : Timebase :=
  let t := tb.machTime + 1
  { tb with
    machTickDue := false, machPrescale := 0, machTime := t, ordinal := tb.ordinal + 1,
    timeEndDue := decide (t = Config.lastMachTime),
    boundaryDue := decide (t ≠ Config.lastMachTime) && decide (t % tb.cycle = 0) && (tb.mode == .step || tb.mode == .creep) }

/-- MACHINE_TICK (R2, R3): the tick is offered to the schedule and to every channel with a waveform in flight. The command says
that the TCLK periods up to the tick have passed (entry 24). -/
def machineTickEvent (s : State) : State :=
  if s.tickReady then
    let tb := s.tb.afterTick
    let tick : Tick := { time := tb.machTime, ordinal := tb.ordinal, clk := s.clock .timebase }
    { s with
      tb := tb
      sched := { s.sched with tick := some tick }
      chans := mapRecords s.chans fun _ x => if x.wave.isSome then { x with tick := some tick } else x }
  else s

/-- The meaning of MACHINE_TICK. -/
def execMachineTick (s : State) : Host.Outcome State Fault Refusal := .next (machineTickEvent s)

/-- STEP_BOUNDARY (R7): the pending step count decreases by 1; at 0 the pace becomes HOLD with a PACE notice of cause STEPS_DONE. -/
def stepBoundaryEvent (s : State) : State :=
  if s.tb.boundaryDue ∧ s.tb.mode = .step then
    if 2 ≤ s.tb.pendingSteps then
      { s with tb := { s.tb with boundaryDue := false, pendingSteps := s.tb.pendingSteps - 1 } }
    else
      ({ s with tb := s.tb.toHold } : State).postPace .step .stepsDone
  else s

/-- The meaning of STEP_BOUNDARY. -/
def execStepBoundary (s : State) : Host.Outcome State Fault Refusal := .next (stepBoundaryEvent s)

/-- CREEP_HOLD_START (R8): the hold phase begins at the boundary, (factor - 1) x CYCLE x TDIV TCLK periods long; the running
condition ends, so the prescale count returns to 0 (R2). -/
def creepHoldStartEvent (s : State) : State :=
  if s.tb.boundaryDue ∧ s.tb.mode = .creep then
    { s with tb := { s.tb with
        boundaryDue := false, creepHolding := true, machPrescale := 0, machTickDue := false,
        holdCount := (s.tb.factor - 1) * s.tb.cycle * s.tb.tdiv } }
  else s

/-- The meaning of CREEP_HOLD_START. -/
def execCreepHoldStart (s : State) : Host.Outcome State Fault Refusal := .next (creepHoldStartEvent s)

/-- CREEP_HOLD_END (R8): the hold count has run out (entry 24), and a new run phase begins with the prescale count at 0. -/
def creepHoldEndEvent (s : State) : State :=
  if s.tb.mode = .creep ∧ s.tb.creepHolding then
    { s with tb := { s.tb with holdEndDue := false, creepHolding := false, holdCount := 0, machPrescale := 0 } }
  else s

/-- The meaning of CREEP_HOLD_END. -/
def execCreepHoldEnd (s : State) : Host.Outcome State Fault Refusal := .next (creepHoldEndEvent s)

/-- TIME_END (R9): the pace becomes HOLD whatever mode it was in, and TIME_END and then PACE go to every OPEN port. -/
def timeEndEvent (s : State) : State :=
  if s.tb.timeEndDue then
    ({ s with tb := { s.tb.toHold with timeEndDue := false } } : State).postTimeEnd s.tb.mode
  else s

/-- The meaning of TIME_END. -/
def execTimeEnd (s : State) : Host.Outcome State Fault Refusal := .next (timeEndEvent s)

/-- What one TCLK period does to the Timebase (R1, R2, R8): the prescale counts and the hold count advance, and a count that has
run out brings its event. -/
def Timebase.clocked (tb : Timebase) : Timebase :=
  { tb with
    wallPrescale := if tb.wallPrescale < Config.wallPrescaleLast then tb.wallPrescale + 1 else tb.wallPrescale
    wallTickDue := tb.wallTickDue || decide (Config.wallPrescaleLast ≤ tb.wallPrescale)
    machPrescale := if tb.running ∧ tb.machPrescale + 1 < tb.tdiv then tb.machPrescale + 1 else tb.machPrescale
    machTickDue := tb.machTickDue || (tb.running && decide (tb.tdiv ≤ tb.machPrescale + 1))
    holdCount := if tb.mode = .creep ∧ tb.creepHolding ∧ 1 < tb.holdCount then tb.holdCount - 1 else tb.holdCount
    holdEndDue := tb.holdEndDue || (tb.mode == .creep && tb.creepHolding && decide (tb.holdCount ≤ 1)) }

/-- One TCLK period (R1, R2, R8, R97): the Timebase's counts advance and each line's next sample is due. In the reset state
nothing counts and nothing samples (R18). -/
def clockPeriod (s : State) : State :=
  if s.inReset then s
  else { s with tb := s.tb.clocked, lines := mapRecords s.lines fun _ x => { x with sampleDue := true } }

/-! ### Requests -/

/-- PACE (R10, R11, R12): BAD_ARG, then the coordinator check, then the table; a change of mode posts PACE to every OPEN port. -/
def paceRequest (p : Port) (payload : List Byte) (s : State) : State × Answer :=
  match paceArgs payload with
  | none => (s, refuse .badArg)
  | some (mode, factor) =>
    if s.isCoordinator p then
      match s.tb.pace mode factor with
      | none => (s, refuse .badPace)
      | some tb =>
        let t : State := { s with tb := tb }
        (if tb.mode = s.tb.mode then t else t.postPace s.tb.mode .request, okEmpty)
    else (s, refuse .notHolder)

/-- The meaning of PACE. -/
def execPace (p : Port) (s : State) : Host.Outcome State Fault Refusal :=
  .next (takeRequest .pace .timebase p (paceRequest p) s)

/-- SETCLOCK (R14): in HOLD, TDIV and CYCLE take the new values together. -/
def setclockRequest (p : Port) (payload : List Byte) (s : State) : State × Answer :=
  match setclockArgs payload with
  | none => (s, refuse .badArg)
  | some (tdiv, cycle) =>
    if s.isCoordinator p then
      if s.tb.mode = .hold then ({ s with tb := { s.tb with tdiv := tdiv, cycle := cycle } }, okEmpty)
      else (s, refuse .badPace)
    else (s, refuse .notHolder)

/-- The meaning of SETCLOCK. -/
def execSetclock (p : Port) (s : State) : Host.Outcome State Fault Refusal :=
  .next (takeRequest .setclock .timebase p (setclockRequest p) s)

/-- SETTIME (R15): in HOLD, machine time takes the value given. A tick that the schedule has still to take keeps its own machine time
(entry 33: DESIGN CHOICE). -/
def settimeRequest (p : Port) (payload : List Byte) (s : State) : State × Answer :=
  if s.isCoordinator p then
    if s.tb.mode = .hold then ({ s with tb := { s.tb with machTime := settimeArg payload } }, okEmpty)
    else (s, refuse .badPace)
  else (s, refuse .notHolder)

/-- The meaning of SETTIME. The Timebase takes a TIME_END that a tick has brought before it moves machine time (R9; entry 28). -/
def execSettime (p : Port) (s : State) : Host.Outcome State Fault Refusal :=
  .next (if s.tb.timeEndDue then s else takeRequest .settime .timebase p (settimeRequest p) s)

/-- TIME (R16): a snapshot of the Timebase and the coordinator; nothing changes. -/
def timeRequest (_payload : List Byte) (s : State) : State × Answer :=
  (s, okWith s.timePayload)

/-- The meaning of TIME. -/
def execTime (p : Port) (s : State) : Host.Outcome State Fault Refusal :=
  .next (takeRequest .time .timebase p timeRequest s)

end Sys2Proof.Machine
end

