-- ==== Sys2Proof/Machine/Schedule.lean ====
section
/-! DEFINITION. The Action Schedule: SUBMIT, the takes at a machine tick, repeats, removal, and the schedule's read requests
(spec/02). -/

namespace Sys2Proof.Machine

/-! ### Entries and the list -/

/-- The channels an action names (R20). -/
def Action.names : Action → ChanSet
  | .set c _ => BitVec.ofNat 16 (2 ^ c.val)
  | .pulse c _ => BitVec.ofNat 16 (2 ^ c.val)
  | .train c _ _ _ => BitVec.ofNat 16 (2 ^ c.val)
  | .groupSet mask _ => mask
  | .mark => 0

/-- The entry names a channel (R20). -/
def Entry.namesChan (e : Entry) (c : Chan) : Bool := e.action.names.getLsbD c.val

/-- The entry names at least one channel of a set (R20, R44). -/
def Entry.namesAny (e : Entry) (cs : ChanSet) : Bool := e.action.names &&& cs != 0

/-- The channels of a set, in ascending order. -/
def chansOf (cs : ChanSet) : List Chan := (List.finRange 16).filter fun c => cs.getLsbD c.val

/-- The entry put in the list's order: after every entry due no later than it (R21). A fresh insertion sequence is larger than
any in the list, so equal due times go by insertion sequence. -/
def insertEntry (e : Entry) : List Entry → List Entry
  | [] => [e]
  | x :: rest => if x.due ≤ e.due then x :: insertEntry e rest else e :: x :: rest

/-- The list without the entries that a cause concerns, and its counts with them (R40). -/
def Schedule.remove (sc : Schedule) (concerned : Entry → Bool) : Schedule :=
  { sc with
    entries := sc.entries.filter fun e => !concerned e
    counts := mapRecords sc.counts fun p n => n - (sc.entries.filter fun e => concerned e && e.owner == p).length }

/-- The tag that follows a tag; 1 follows 65535 (R23). -/
def nextTag (n : Nat) : Nat := if Config.max16 ≤ n then 1 else n + 1

/-- The first tag from `n` upward that no entry of the list holds, looking at no more than `fuel` tags (R23). -/
def freeTag (entries : List Entry) : (fuel : Nat) → (n : Nat) → Nat
  | 0, n => n
  | fuel + 1, n => if entries.any fun e => e.tag == n then freeTag entries fuel (nextTag n) else n

/-- The tag that the next accepted entry gets (R23): with k entries held, one of k + 1 successive tags is free. -/
def Schedule.chooseTag (sc : Schedule) : Nat := freeTag sc.entries sc.entries.length sc.tagCounter

/-- An accepted entry put in the list with its tag and insertion sequence (R19, R23, R28). -/
def Schedule.accept (sc : Schedule) (e : Entry) : Schedule :=
  let tag := sc.chooseTag
  { sc with
    entries := insertEntry { e with tag := tag, seq := sc.insertions } sc.entries
    tagCounter := nextTag tag
    insertions := sc.insertions + 1
    counts := sc.counts.set e.owner (sc.counts[e.owner] + 1) }

/-- A taken entry's repeat with one use taken off, none when the entry leaves the list (R37, R38). -/
def Entry.again (e : Entry) : Option Entry :=
  match e.rep with
  | none => none
  | some r =>
    if Config.lastMachTime < e.due + r.interval then none
    else
      match r.remaining with
      | some 0 => none
      | some (n + 1) => some { e with due := e.due + r.interval, rep := some { r with remaining := some n } }
      | none => some { e with due := e.due + r.interval }

/-- The repeat of an entry that has been taken and whose outcome is settled (R37, R38): re-inserted at its next nominal due time
with a fresh insertion sequence, or gone from the list. -/
def Schedule.settleRepeat (sc : Schedule) (e : Entry) : Schedule :=
  match e.again with
  | none => sc.remove fun x => x.tag == e.tag
  | some e' =>
    { sc with
      entries := insertEntry { e' with seq := sc.insertions } (sc.entries.filter fun x => !(x.tag == e.tag))
      insertions := sc.insertions + 1 }

/-! ### Outcomes of takes (R36) -/

/-- Lateness as a notice carries it (R32). -/
def lateness (t : Nat) (e : Entry) : Nat := cap24 (t - e.due)

/-- The notice of an entry that fired at a tick with machine time `t`, if any (R36). -/
def firedNotice (t : Nat) (e : Entry) : Option Notice :=
  if t - e.due = 0 then
    if e.notify then some ⟨.fired, e.tag, 0, t⟩ else none
  else some ⟨.late, e.tag, lateness t e, t⟩

/-- A notice of the schedule to an entry's owner, if there is one. -/
def State.postOutcome (s : State) (e : Entry) (n : Option Notice) : State :=
  match n with
  | none => s
  | some n => s.post .schedule e.owner n

/-- Why an entry is dropped (R34, R190). -/
inductive DropReason where
  | lease | trip
  deriving DecidableEq, Repr

/-- The code of a DROPPED notice's reason (R190). -/
def DropReason.code : DropReason → Nat
  | .lease => 1
  | .trip => 2

/-- A DROPPED notice (R34, R43, R44). -/
def droppedNotice (tag : Nat) (why : DropReason) (t : Nat) : Notice := ⟨.dropped, tag, why.code, t⟩

/-! ### The machine tick at the schedule (R30) -/

/-- The schedule is in the middle of a machine tick, which it takes as one event (R30; entry 8). -/
def State.scheduleBusy (s : State) : Bool := s.sched.work.isSome

/-- The entries that a tick with machine time `t` takes: those due, from the head, at most 8 (R30). -/
def Schedule.dueAt (sc : Schedule) (t : Nat) : List Entry :=
  (sc.entries.takeWhile fun e => decide (e.due ≤ t)).take Config.fireBudget

/-- The guard of an entry is met now: it has none, or its line's qualified level is the required one (R33, R103). -/
def State.guardMet (s : State) (e : Entry) : Bool :=
  match e.guard with
  | none => true
  | some g => (s.line g.line).qualified == g.level

/-- The schedule takes one entry of the tick in hand, the rest to follow (R33 to R37): it is skipped, or its mark is noted, and
the outcome is posted and the repeat dealt with; or its action is handed to the channels, whose answer is awaited. The marks stand in the
work until the tick is done. -/
def takeEntry (w : Work) (e : Entry) (rest : List Entry) (s : State) : State :=
  if s.guardMet e then
    match e.action with
    | .mark =>
      let t := s.postOutcome e (firedNotice w.time e)
      { t with sched := { t.sched.settleRepeat e with
          work := some { w with rest := rest, marks := w.marks ++ [(e.owner, e.tag)] } } }
    | _ => { s with sched := { s.sched with work := some { w with
        rest := rest, handed := some e, clk := s.clock .schedule, reached := true } } }
  else
    let t := s.post .schedule e.owner ⟨.skipped, e.tag, lateness w.time e, w.time⟩
    { t with sched := { t.sched.settleRepeat e with work := some { w with rest := rest } } }

/-- The schedule takes up to `n` entries of the tick in hand, in list order, and waits at an action it has handed over (R30, R34,
R36). -/
def takeEntries : (n : Nat) → State → State
  | 0, s => s
  | n + 1, s =>
    match s.sched.work with
    | none => s
    | some w =>
      match w.handed, w.rest with
      | none, e :: rest => takeEntries n (takeEntry w e rest s)
      | _, _ => s

/-- The marks taken at a tick as offers to the journal, with the past `clk` (R35). -/
def Work.markOffers (w : Work) (clk : Clock) : List Offer :=
  w.marks.map fun m => { body := .mark m.1 m.2 w.time, clk := clk }

/-- The tick is done when no entry of it is left to take and none awaits its answer. The tick is one event (R30), so its marks are handed
to the journal with every post of the tick in their past, and channels that it has handed an action know them too: no JOURNAL_READY and
no later notice of the channels comes ahead of one of them (R174; entry 12). -/
def finishTick (s : State) : State :=
  match s.sched.work with
  | some w =>
    if w.rest = [] ∧ w.handed = none then
      let t : State :=
        { s with sched := { s.sched with work := none }, offers := s.offers ++ w.markOffers (s.clock .schedule) }
      if w.reached then t.hear .channels (t.clock .schedule) else t
    else s
  | none => s

/-- The schedule takes the tick offered to it (R30); the choice of the entries is made here. They are those due by the tick's own machine
time, also when a SETTIME has moved machine time since the Timebase's tick (entry 33: DESIGN CHOICE). -/
def openTick (s : State) : State :=
  match s.sched.work, s.sched.tick with
  | none, some k =>
    let t := s.hear .schedule k.clk
    { t with sched := { t.sched with
        tick := none, work := some { time := k.time, ordinal := k.ordinal, rest := t.sched.dueAt k.time } } }
  | _, _ => s

/-- SCHEDULE_TICK (R30 to R37). -/
def scheduleTickEvent (slice : Nat) (s : State) : State :=
  finishTick (takeEntries slice (openTick s))

/-- The meaning of SCHEDULE_TICK. -/
def execScheduleTick (slice : Nat) (s : State) : Host.Outcome State Fault Refusal := .next (scheduleTickEvent slice s)

/-! ### Requests -/

/-- A request to the schedule is taken when the schedule is not in the middle of a machine tick (R30; entry 8). -/
def takeScheduleRequest (k : ReqKind) (p : Port) (body : List Byte → State → State × Answer) (s : State) : State :=
  if s.scheduleBusy then s else takeRequest k .schedule p body s

/-- The third check of SUBMIT reads a channel as locked when its lock set is not empty (R25, R51). -/
def State.chanLocked (s : State) (c : Chan) : Bool := (s.chan c).lockSet != 0

/-- The second to sixth checks of SUBMIT, in their order: the first refusal, if any (R25, R26, R27). The fourth reads machine time as
the Timebase holds it now, also between the Timebase's tick and the schedule's taking of that tick (entry 29: DESIGN CHOICE). -/
def State.submitRefusal (s : State) (p : Port) (e : Entry) : Option ReplyCode :=
  if (chansOf e.action.names).any (fun c => s.chanHolder c != some p) then some .notHolder
  else if (chansOf e.action.names).any s.chanLocked then some .locked
  else if e.due ≤ s.tb.machTime ∧ e.late = .reject then some .late
  else if Config.portQuota ≤ s.sched.counts[p] then some .quota
  else if Config.scheduleCapacity ≤ s.sched.entries.length then some .schedFull
  else none

/-- SUBMIT (R24 to R28). -/
def submitRequest (p : Port) (payload : List Byte) (s : State) : State × Answer :=
  match submitEntry p payload with
  | none => (s, refuse .badArg)
  | some e =>
    match s.submitRefusal p e with
    | some code => (s, refuse code)
    | none => ({ s with sched := s.sched.accept e }, okWith (bytesOf 2 s.sched.chooseTag))

/-- The meaning of SUBMIT. -/
def execSubmit (p : Port) (s : State) : Host.Outcome State Fault Refusal :=
  .next (takeScheduleRequest .submit p (submitRequest p) s)

/-- The entry that holds a tag (R41, R47). -/
def Schedule.find (sc : Schedule) (tag : Nat) : Option Entry := sc.entries.find? fun e => e.tag == tag

/-- CANCEL (R41). -/
def cancelRequest (p : Port) (payload : List Byte) (s : State) : State × Answer :=
  match s.sched.find (tagArg payload) with
  | none => (s, refuse .noTag)
  | some e =>
    if e.owner = p then ({ s with sched := s.sched.remove fun x => x.tag == e.tag }, okEmpty)
    else (s, refuse .notOwner)

/-- The meaning of CANCEL. -/
def execCancel (p : Port) (s : State) : Host.Outcome State Fault Refusal :=
  .next (takeScheduleRequest .cancel p (cancelRequest p) s)

/-- The entries of a port that CANCEL_CHANNEL removes: those naming the channel, or all (R42). -/
def cancelled (p : Port) (which : Option Chan) (e : Entry) : Bool :=
  e.owner == p && (match which with
    | none => true
    | some c => e.namesChan c)

/-- CANCEL_CHANNEL (R42). -/
def cancelChannelRequest (p : Port) (payload : List Byte) (s : State) : State × Answer :=
  match cancelChannelArg payload with
  | none => (s, refuse .badArg)
  | some which =>
    ({ s with sched := s.sched.remove (cancelled p which) },
      okWith (bytesOf 1 (s.sched.entries.filter (cancelled p which)).length))

/-- The meaning of CANCEL_CHANNEL. -/
def execCancelChannel (p : Port) (s : State) : Host.Outcome State Fault Refusal :=
  .next (takeScheduleRequest .cancelChannel p (cancelChannelRequest p) s)

/-- QUERY (R47). -/
def queryRequest (p : Port) (payload : List Byte) (s : State) : State × Answer :=
  match s.sched.find (tagArg payload) with
  | none => (s, refuse .noTag)
  | some e => if e.owner = p then (s, okWith (s.queryPayload e)) else (s, refuse .notOwner)

/-- The meaning of QUERY. -/
def execQuery (p : Port) (s : State) : Host.Outcome State Fault Refusal :=
  .next (takeScheduleRequest .query p (queryRequest p) s)

/-- SCHEDULE (R48). -/
def scheduleRequest (p : Port) (_payload : List Byte) (s : State) : State × Answer :=
  (s, okWith (s.schedulePayload p))

/-- The meaning of SCHEDULE. -/
def execSchedule (p : Port) (s : State) : Host.Outcome State Fault Refusal :=
  .next (takeScheduleRequest .schedule p (scheduleRequest p) s)

/-! ### Purges (R43, R44, R45) -/

/-- One DROPPED notice to the owner of each removed entry, in list order (R43, R44). -/
def State.postDropped (s : State) (why : DropReason) (removed : List Entry) : State :=
  removed.foldl (fun t e => t.post .schedule e.owner (droppedNotice e.tag why s.tb.machTime)) s

/-- LEASE_END_PURGE (R43): every entry of the old holder that names the channel leaves, with DROPPED (LEASE) for a revocation
alone; the schedule reports the purge done (R81). -/
def leaseEndPurgeEvent (c : Chan) (s : State) : State :=
  match (s.lease (resOf c)).ending with
  | some { cause, old, stage := .purgeHanded, clk } =>
    if s.scheduleBusy then s
    else
      let t := s.hear .schedule clk
      let concerned : Entry → Bool := fun e => e.owner == old && e.namesChan c
      let u := if cause = .revoke then t.postDropped .lease (t.sched.entries.filter concerned) else t
      let v : State := { u with sched := u.sched.remove concerned }
      v.setLease (resOf c) { v.lease (resOf c) with
        ending := some { cause := cause, old := old, stage := .purgeReported, clk := v.clock .schedule } }
  | _ => s

/-- The meaning of LEASE_END_PURGE. -/
def execLeaseEndPurge (c : Chan) (s : State) : Host.Outcome State Fault Refusal := .next (leaseEndPurgeEvent c s)

/-- TRIP_PURGE (R44): every entry, of every owner, that names a channel of the set leaves, each with DROPPED (TRIP). Of two purges of one
group that wait, the one handed first is taken first (entry 32: DESIGN CHOICE). -/
def tripPurgeEvent (g : GroupId) (s : State) : State :=
  match (s.group g).purges with
  | [] => s
  | purge :: later =>
    if s.scheduleBusy then s
    else
      let t := s.hear .schedule purge.clk
      let concerned : Entry → Bool := fun e => e.namesAny purge.channels
      let u := t.postDropped .trip (t.sched.entries.filter concerned)
      let v : State := { u with sched := u.sched.remove concerned }
      v.setGroup g { v.group g with purges := later }

/-- The meaning of TRIP_PURGE. -/
def execTripPurge (g : GroupId) (s : State) : Host.Outcome State Fault Refusal := .next (tripPurgeEvent g s)

/-- SCHEDULE_TEARDOWN (R45): every entry of the port leaves, with no notice, and the part is reported done. -/
def scheduleTeardownEvent (p : Port) (s : State) : State :=
  match (s.port p).parts.schedule with
  | .handed clk =>
    if s.scheduleBusy then s
    else
      let t := s.hear .schedule clk
      let v : State := { t with sched := t.sched.remove fun e => e.owner == p }
      v.setPort p { v.port p with parts := { (v.port p).parts with schedule := .reported (v.clock .schedule) } }
  | _ => s

/-- The meaning of SCHEDULE_TEARDOWN. -/
def execScheduleTeardown (p : Port) (s : State) : Host.Outcome State Fault Refusal := .next (scheduleTeardownEvent p s)

end Sys2Proof.Machine
end

