-- ==== Sys2Proof/Machine/Channels.lean ====
section
/-! DEFINITION. The Output Channels: applications, waveforms in machine time, the share of a lease end, locks and unlocks, and the
channels' requests (spec/03). -/

namespace Sys2Proof.Machine

/-! ### Applying an action (R53 to R59) -/

/-- Why the channels refuse an action, if they do: TRIP when a named channel is locked, else LEASE when one is not leased to the
action's owner (R53). -/
def State.applicationRefusal (s : State) (e : Entry) : Option DropReason :=
  if (chansOf e.action.names).any s.chanLocked then some .trip
  else if (chansOf e.action.names).any (fun c => s.chanHolder c != some e.owner) then some .lease
  else none

/-- The channel without its waveform in flight, at that waveform's rest level (R56, R57, R64). -/
def Channel.toRest (x : Channel) : Channel :=
  match x.wave with
  | none => x
  | some w => { x with level := w.rest, wave := none }

/-- SUPERSEDED to the owner of a waveform that the action of tag `tag` displaces, if there is one (R54). -/
def State.postSuperseded (s : State) (c : Chan) (tag : Nat) : State :=
  match (s.chan c).wave with
  | none => s
  | some w => s.post .channels w.owner ⟨.superseded, w.tag, tag, s.tb.machTime⟩

/-- A SET of tag `tag` applied to channel `c` (R54, R55): the waveform's rest level is not visited. -/
def applySet (c : Chan) (level : Level) (tag : Nat) (s : State) : State :=
  let t := s.postSuperseded c tag
  t.setChan c { t.chan c with level := level, wave := none }

/-- The waveform that an entry's action starts on a channel at a rest level (R52, R56, R57). -/
def startWave (e : Entry) (kind : WaveKind) (rest : Level) (ticks start : Nat) : Wave where
  tag := e.tag
  owner := e.owner
  notify := e.notify
  kind := kind
  rest := rest
  active := true
  ticksLeft := ticks
  start := start

/-- A PULSE or TRAIN applied to channel `c` (R54, R56, R57): a waveform in flight is displaced and the level returns to its rest
level; the level found is the new rest level and is inverted. -/
def applyWave (c : Chan) (e : Entry) (kind : WaveKind) (ticks ordinal : Nat) (s : State) : State :=
  let t := s.postSuperseded c e.tag
  let x := (t.chan c).toRest
  t.setChan c { x with level := !x.level, wave := some (startWave e kind x.level ticks ordinal) }

/-- A GROUP_SET applied (R58): each masked channel as an applied SET, in ascending order. -/
def applyGroupSet (values : ChanSet) (tag : Nat) (cs : List Chan) (s : State) : State :=
  cs.foldl (fun t c => applySet c (values.getLsbD c.val) tag t) s

/-- An action that has passed the check, applied (R55 to R58). -/
def applyAction (e : Entry) (ordinal : Nat) (s : State) : State :=
  match e.action with
  | .set c level => applySet c level e.tag s
  | .pulse c width => applyWave c e .pulse width ordinal s
  | .train c period onTime pulses => applyWave c e (.train onTime period pulses 0) onTime ordinal s
  | .groupSet mask values => applyGroupSet values e.tag (chansOf mask) s
  | .mark => s

/-- The channels take an application and answer it (R53): what they have done, and the reason if they refuse. -/
def takeApplication (w : Work) (e : Entry) (s : State) : State × Option DropReason :=
  let t := s.hear .channels w.clk
  match t.applicationRefusal e with
  | some why => (t, some why)
  | none => (applyAction e w.ordinal t, none)

/-- The notice of an entry whose action has been answered (R34, R36). -/
def answeredNotice (t : Nat) (e : Entry) : Option DropReason → Option Notice
  | some why => some (droppedNotice e.tag why t)
  | none => firedNotice t e

/-- APPLICATION (R34, R36, R37, R53 to R59): the channels take the action handed to them and answer; the schedule posts the
entry's outcome and deals with its repeat. It is one event of both blocks (entry 8), so what either does next has the outcome's post
in its past (R174). -/
def applicationEvent (s : State) : State :=
  match s.sched.work with
  | some w =>
    match w.handed with
    | some e =>
      let done := takeApplication w e s
      let t := (done.1.hear .schedule (done.1.clock .channels)).postOutcome e (answeredNotice w.time e done.2)
      let u : State := { t with sched := { t.sched.settleRepeat e with work := some { w with handed := none } } }
      (finishTick u).hear .channels (u.clock .schedule)
    | none => s
  | none => s

/-- The meaning of APPLICATION. -/
def execApplication (s : State) : Host.Outcome State Fault Refusal := .next (applicationEvent s)

/-! ### Waveforms in machine time (R60 to R62) -/

/-- A channel's count of a tick (R60): ticks left decreases by 1, except at the waveform's own start tick. -/
def Channel.count (x : Channel) (ordinal : Nat) : Channel :=
  match x.wave with
  | none => x
  | some w => if w.start = ordinal then x else { x with wave := some { w with ticksLeft := w.ticksLeft - 1 } }

/-- The edge of the channel's waveform is due (R60). -/
def Channel.edgeDue (x : Channel) : Bool :=
  match x.wave with
  | none => false
  | some w => w.ticksLeft == 0

/-- CHANNEL_TICK (R60). -/
def channelTickEvent (c : Chan) (s : State) : State :=
  match (s.chan c).tick with
  | none => s
  | some k =>
    if (s.chan c).edgeDue then s
    else
      let t := s.hear .channels k.clk
      t.setChan c { (t.chan c).count k.ordinal with tick := none }

/-- The meaning of CHANNEL_TICK. -/
def execChannelTick (c : Chan) (s : State) : Host.Outcome State Fault Refusal := .next (channelTickEvent c s)

/-- WAVE_DONE to the owner of a waveform that has run to its end, when its notify was set (R61, R62). -/
def State.postWaveDone (s : State) (w : Wave) (done : Nat) : State :=
  if w.notify then s.post .channels w.owner ⟨.waveDone, w.tag, done, s.tb.machTime⟩ else s

/-- PULSE_END (R61). -/
def pulseEndEvent (c : Chan) (s : State) : State :=
  match (s.chan c).wave with
  | some w =>
    if w.kind = .pulse ∧ w.ticksLeft = 0 then
      (s.setChan c { s.chan c with level := w.rest, wave := none }).postWaveDone w 0
    else s
  | none => s

/-- The meaning of PULSE_END. -/
def execPulseEnd (c : Chan) (s : State) : Host.Outcome State Fault Refusal := .next (pulseEndEvent c s)

/-- A train has an ACTIVE phase after the one that ends with `done` completed before it (R62). -/
def trainGoesOn (ordered done : Nat) : Bool := ordered == 0 || decide (done + 1 < ordered)

/-- TRAIN_EDGE (R62): an ACTIVE phase gives way to REST or ends the train; a REST phase gives way to ACTIVE. Pulses done count up to
65535. -/
def trainEdgeEvent (c : Chan) (s : State) : State :=
  match (s.chan c).wave with
  | some w =>
    match w.kind with
    | .train onTime period ordered done =>
      if w.ticksLeft = 0 then
        if w.active then
          let done' := min (done + 1) Config.max16
          if trainGoesOn ordered done then
            s.setChan c { s.chan c with
              level := w.rest
              wave := some { w with active := false, ticksLeft := period - onTime, kind := .train onTime period ordered done' } }
          else (s.setChan c { s.chan c with level := w.rest, wave := none }).postWaveDone w done'
        else
          s.setChan c { s.chan c with level := !w.rest, wave := some { w with active := true, ticksLeft := onTime } }
      else s
    | .pulse => s
  | none => s

/-- The meaning of TRAIN_EDGE. -/
def execTrainEdge (c : Chan) (s : State) : Host.Outcome State Fault Refusal := .next (trainEdgeEvent c s)

/-! ### The share of a lease end (R64) -/

/-- What a lease end does to a channel (R64): unless it is LOCKED, a waveform in flight ends at its rest level and, under the
policy SAFE, the level becomes the safe level. -/
def Channel.endLease (x : Channel) : Channel :=
  if x.lockSet ≠ 0 then x
  else
    let y := x.toRest
    match y.policy with
    | .safe => { y with level := y.safe }
    | .keep => y

/-- LEASE_END_SHARE (R64): the channel takes its share and reports to the Lease Table. -/
def leaseEndShareEvent (c : Chan) (s : State) : State :=
  match (s.lease (resOf c)).ending with
  | some { cause, old, stage := .shareHanded, clk } =>
    let t := s.hear .channels clk
    let u := t.setChan c (t.chan c).endLease
    u.setLease (resOf c) { u.lease (resOf c) with
      ending := some { cause := cause, old := old, stage := .shareReported, clk := u.clock .channels } }
  | _ => s

/-- The meaning of LEASE_END_SHARE. -/
def execLeaseEndShare (c : Chan) (s : State) : Host.Outcome State Fault Refusal := .next (leaseEndShareEvent c s)

/-! ### Lock and unlock (R69, R70) -/

/-- A group as a set of groups. -/
def groupBit (g : GroupId) : LockSet := BitVec.ofNat 4 (2 ^ g.val)

/-- A lock at a channel (R69). -/
def Channel.locked (x : Channel) (g : GroupId) : Channel :=
  if x.lockSet = 0 then { x with lockSet := groupBit g, wave := none, level := x.safe }
  else { x with lockSet := x.lockSet ||| groupBit g }

/-- An unlock at a channel (R70). -/
def Channel.unlocked (x : Channel) (g : GroupId) : Channel :=
  { x with lockSet := x.lockSet &&& ~~~ groupBit g }

/-- The oldest hand-over of group `g` to channel `c` that the channel has not taken (R139). -/
def State.nextLockMsg (s : State) (c : Chan) (g : GroupId) : Option LockMsg :=
  s.lockMsgs.find? fun m => m.chan == c && m.group == g

/-- LOCK (R69, R142): the channel takes the lock and reports it to the group. -/
def lockEvent (c : Chan) (g : GroupId) (s : State) : State :=
  match s.nextLockMsg c g with
  | some m =>
    if m.lock then
      let t := ({ s with lockMsgs := s.lockMsgs.erase m } : State).hear .channels m.clk
      let u := t.setChan c ((t.chan c).locked g)
      u.setGroup g { u.group g with reports := (u.group g).reports ++ [u.clock .channels] }
    else s
  | none => s

/-- The meaning of LOCK. -/
def execLock (c : Chan) (g : GroupId) (s : State) : Host.Outcome State Fault Refusal := .next (lockEvent c g s)

/-- UNLOCKED to the channel's holder, if it has one (R70). -/
def State.postUnlocked (s : State) (c : Chan) : State :=
  match s.chanHolder c with
  | none => s
  | some p => s.post .channels p ⟨.unlocked, c.val, bit (s.chan c).level 0, s.tb.machTime⟩

/-- UNLOCK (R70): the group leaves the lock set, and UNLOCKED is posted when that empties it; an unlock naming a group that is not
in the set changes nothing. -/
def unlockEvent (c : Chan) (g : GroupId) (s : State) : State :=
  match s.nextLockMsg c g with
  | some m =>
    if m.lock then s
    else
      let t := ({ s with lockMsgs := s.lockMsgs.erase m } : State).hear .channels m.clk
      let u := t.setChan c ((t.chan c).unlocked g)
      if (t.chan c).lockSet ≠ 0 ∧ (u.chan c).lockSet = 0 then u.postUnlocked c else u
  | none => s

/-- The meaning of UNLOCK. -/
def execUnlock (c : Chan) (g : GroupId) (s : State) : Host.Outcome State Fault Refusal := .next (unlockEvent c g s)

/-! ### Requests -/

/-- CHANNEL_CONFIG (R67). -/
def channelConfigRequest (p : Port) (payload : List Byte) (s : State) : State × Answer :=
  match channelConfigArgs payload with
  | none => (s, refuse .badArg)
  | some (c, safe, policy) =>
    if s.chanHolder c = some p then
      if s.chanLocked c then (s, refuse .locked)
      else (s.setChan c { s.chan c with safe := safe, policy := policy }, okEmpty)
    else (s, refuse .notHolder)

/-- The meaning of CHANNEL_CONFIG. -/
def execChannelConfig (p : Port) (s : State) : Host.Outcome State Fault Refusal :=
  .next (takeRequest .channelConfig .channels p (channelConfigRequest p) s)

/-- CHANNELS (R72). -/
def channelsRequest (_payload : List Byte) (s : State) : State × Answer :=
  (s, okWith s.channelsPayload)

/-- The meaning of CHANNELS. -/
def execChannels (p : Port) (s : State) : Host.Outcome State Fault Refusal :=
  .next (takeRequest .channels .channels p channelsRequest s)

end Sys2Proof.Machine
end

