-- ==== Sys2Proof/Machine/Leases.lean ====
section
/-! DEFINITION. The Lease Table: claims, releases, the lease-end sequence, revocation, wait limits and teardown (spec/04). -/

namespace Sys2Proof.Machine

/-- The level that a grant reports: the channel's level now, 0 for T (R77, R82). -/
def State.grantLevel (s : State) (r : ResId) : Nat :=
  if h : r.val < 16 then bit (s.chan ⟨r.val, h⟩).level 0 else 0

/-- A lease is contested (R84). -/
def State.contested (s : State) (r : ResId) : Bool :=
  let x := s.lease r
  x.holder.isSome && x.holdLimit != 0 && decide (x.holdLimit ≤ s.wallSince x.grantWall) && !x.queue.isEmpty

/-! ### The lease-end sequence (R81, R82) -/

/-- The grant step (R82): claimants that are CLOSING are skipped; the first other becomes holder, with GRANTED; when none remains
the resource has no holder; the lease end is over. -/
def grantStep (r : ResId) (s : State) : State :=
  match (s.lease r).queue.dropWhile (fun c => s.isClosing c.port) with
  | [] => s.setLease r { s.lease r with holder := none, queue := [], ending := none, revokeDue := false }
  | c :: later =>
    let t := s.setLease r { s.lease r with
      holder := some c.port, grantWall := s.tb.wallTime, holdLimit := c.hold, queue := later, ending := none, revokeDue := false }
    t.post .leases c.port ⟨.granted, r.val, t.grantLevel r, t.tb.machTime⟩

/-- A lease end taken at the Lease Table (R81): the holder becomes none and the ending field takes the cause; for a channel the
purge is handed to the schedule, for T the grant step follows in the same event (R94). -/
def endLease (r : ResId) (cause : EndCause) (old : Port) (s : State) : State :=
  let t := s.setLease r { s.lease r with
    holder := none, revokeDue := false
    ending := some { cause := cause, old := old, stage := .purgeHanded, clk := s.clock .leases } }
  if r = timeline then grantStep r t else t

/-- PURGE_REPORT (R81): the Lease Table takes the purge's report and hands the channel its share. -/
def purgeReportEvent (c : Chan) (s : State) : State :=
  match (s.lease (resOf c)).ending with
  | some { cause, old, stage := .purgeReported, clk } =>
    let t := s.hear .leases clk
    t.setLease (resOf c) { t.lease (resOf c) with
      ending := some { cause := cause, old := old, stage := .shareHanded, clk := t.clock .leases } }
  | _ => s

/-- The meaning of PURGE_REPORT. -/
def execPurgeReport (c : Chan) (s : State) : Host.Outcome State Fault Refusal := .next (purgeReportEvent c s)

/-- A lease end that a teardown of port `p` started is still in flight (R90). -/
def State.teardownEnding (s : State) (p : Port) : Bool :=
  (List.finRange 17).any fun r =>
    match (s.lease r).ending with
    | some e => e.cause == .teardown && e.old == p
    | none => false

/-- The Lease Table reports its part of port `p`'s teardown done when the grant step of every lease end it started has been taken
(R90). -/
def leasePartCheck (p : Port) (s : State) : State :=
  if (s.port p).parts.leases = .working ∧ s.teardownEnding p = false then
    s.setPort p { s.port p with parts := { (s.port p).parts with leases := .reported (s.clock .leases) } }
  else s

/-- GRANT_STEP (R82): the Lease Table takes the share's report and the grant step. -/
def grantStepEvent (c : Chan) (s : State) : State :=
  match (s.lease (resOf c)).ending with
  | some { cause := _, old, stage := .shareReported, clk } =>
    leasePartCheck old (grantStep (resOf c) (s.hear .leases clk))
  | _ => s

/-- The meaning of GRANT_STEP. -/
def execGrantStep (c : Chan) (s : State) : Host.Outcome State Fault Refusal := .next (grantStepEvent c s)

/-! ### Requests -/

/-- A resource is free (R74). -/
def Lease.free (x : Lease) : Bool := x.holder.isNone && x.ending.isNone && x.queue.isEmpty

/-- A grant made at CLAIM (R77). -/
def grantAtClaim (r : ResId) (p : Port) (hold : Nat) (s : State) : State :=
  s.setLease r { s.lease r with
    holder := some p, grantWall := s.tb.wallTime, holdLimit := hold, revokeDue := false }

/-- A claim appended to the queue (R78); a revocation follows when that makes the lease contested (R84). -/
def queueClaim (r : ResId) (p : Port) (hold wait : Nat) (s : State) : State :=
  let x := s.lease r
  let t := s.setLease r { x with queue := x.queue ++ [{ port := p, hold := hold, wait := wait, since := s.tb.wallTime }] }
  if t.contested r then t.setLease r { t.lease r with revokeDue := true } else t

/-- CLAIM (R76 to R78). -/
def claimRequest (p : Port) (payload : List Byte) (s : State) : State × Answer :=
  match claimArgs payload with
  | none => (s, refuse .badArg)
  | some (r, hold, wait) =>
    let x := s.lease r
    if x.holder = some p ∨ x.queue.any (fun c => c.port == p) then (s, refuse .already)
    else if x.free then (grantAtClaim r p hold s, okWith (bytesOf 1 (s.grantLevel r)))
    else (queueClaim r p hold wait s, { code := .queued, payload := bytesOf 1 (x.queue.length + 1) })

/-- The meaning of CLAIM. -/
def execClaim (p : Port) (s : State) : Host.Outcome State Fault Refusal :=
  .next (takeRequest .claim .leases p (claimRequest p) s)

/-- The claims of a port taken out of a queue; those behind move up (R78, R80, R90). -/
def withoutPort (p : Port) (queue : List Claim) : List Claim := queue.filter fun c => !(c.port == p)

/-- RELEASE (R80). -/
def releaseRequest (p : Port) (payload : List Byte) (s : State) : State × Answer :=
  match resourceArg payload with
  | none => (s, refuse .badArg)
  | some r =>
    let x := s.lease r
    if x.holder = some p then (endLease r .release p s, okWith (bytesOf 1 0))
    else if x.queue.any (fun c => c.port == p) then
      (s.setLease r { x with queue := withoutPort p x.queue }, okWith (bytesOf 1 1))
    else (s, refuse .notHolder)

/-- The meaning of RELEASE. -/
def execRelease (p : Port) (s : State) : Host.Outcome State Fault Refusal :=
  .next (takeRequest .release .leases p (releaseRequest p) s)

/-- LEASES (R92). -/
def leasesRequest (payload : List Byte) (s : State) : State × Answer :=
  match resourceArg payload with
  | none => (s, refuse .badArg)
  | some r => (s, okWith (s.leasesPayload r))

/-- The meaning of LEASES. -/
def execLeases (p : Port) (s : State) : Host.Outcome State Fault Refusal :=
  .next (takeRequest .leases .leases p leasesRequest s)

/-! ### Hold limits and wait limits (R84 to R88) -/

/-- HOLD_LIMIT_EXPIRY (R84): the hold limit has passed with the queue not empty, so the lease is contested and a revocation follows. The
wall tick continues no chain from the Timebase (entry 30: DESIGN CHOICE). -/
def holdLimitExpiryEvent (r : ResId) (s : State) : State :=
  if s.contested r then s.setLease r { s.lease r with revokeDue := true } else s

/-- The meaning of HOLD_LIMIT_EXPIRY. -/
def execHoldLimitExpiry (r : ResId) (s : State) : Host.Outcome State Fault Refusal := .next (holdLimitExpiryEvent r s)

/-- REVOCATION (R84, R85): the lease is examined again; if it still stands contested, REVOKED goes to the holder and a lease end
with cause REVOKE is taken; otherwise the revocation does nothing. -/
def revocationEvent (r : ResId) (s : State) : State :=
  if (s.lease r).revokeDue then
    let t := s.setLease r { s.lease r with revokeDue := false }
    match (t.lease r).holder with
    | some old =>
      if t.contested r then
        endLease r .revoke old
          (t.post .leases old ⟨.revoked, r.val, cap24 (t.wallSince (t.lease r).grantWall), t.tb.machTime⟩)
      else t
    | none => t
  else s

/-- The meaning of REVOCATION. -/
def execRevocation (r : ResId) (s : State) : Host.Outcome State Fault Refusal := .next (revocationEvent r s)

/-- The wait limit of a claim has run out (R87). -/
def State.claimExpired (s : State) (c : Claim) : Bool :=
  c.wait != 0 && decide (c.wait ≤ s.wallSince c.since)

/-- WAIT_LIMIT_EXPIRY (R87): a claim still queued is removed, with CLAIM_EXPIRED to the claimant. The wall tick is the table's own
event and continues no chain from the Timebase (entry 30: DESIGN CHOICE). -/
def waitLimitExpiryEvent (r : ResId) (p : Port) (s : State) : State :=
  match (s.lease r).queue.find? fun c => c.port == p with
  | none => s
  | some c =>
    if s.claimExpired c then
      (s.setLease r { s.lease r with queue := withoutPort p (s.lease r).queue }).post .leases p
        ⟨.claimExpired, r.val, c.wait, s.tb.machTime⟩
    else s

/-- The meaning of WAIT_LIMIT_EXPIRY. -/
def execWaitLimitExpiry (r : ResId) (p : Port) (s : State) : Host.Outcome State Fault Refusal :=
  .next (waitLimitExpiryEvent r p s)

/-! ### At session end (R90) -/

/-- A lease end with cause TEARDOWN on a resource that the port holds (R90). -/
def endLeaseOf (p : Port) (s : State) (r : ResId) : State :=
  if s.holder r = some p then endLease r .teardown p s else s

/-- A purge that a teardown of port `p` has just handed, with the past `clk`. -/
def Lease.stampPurge (p : Port) (clk : Clock) (x : Lease) : Lease :=
  match x.ending with
  | some e =>
    if e.cause = .teardown ∧ e.old = p ∧ e.stage = .purgeHanded then { x with ending := some { e with clk := clk } } else x
  | none => x

/-- What LEASE_TEARDOWN hands over has all its posts in its past, the GRANTED of T included (R174). -/
def State.stampPurges (s : State) (p : Port) : State :=
  { s with leases := mapRecords s.leases fun _ x => x.stampPurge p (s.clock .leases) }

/-- LEASE_TEARDOWN (R90): every claim of the port is withdrawn, and then every lease it holds ends, C0 to C15 and then T. -/
def leaseTeardownEvent (p : Port) (s : State) : State :=
  match (s.port p).parts.leases with
  | .handed clk =>
    let t := s.hear .leases clk
    let u : State := { t with leases := mapRecords t.leases fun _ x => { x with queue := withoutPort p x.queue } }
    let v := ((List.finRange 17).foldl (endLeaseOf p) u).stampPurges p
    leasePartCheck p (v.setPort p { v.port p with parts := { (v.port p).parts with leases := .working } })
  | _ => s

/-- The meaning of LEASE_TEARDOWN. -/
def execLeaseTeardown (p : Port) (s : State) : Host.Outcome State Fault Refusal := .next (leaseTeardownEvent p s)

end Sys2Proof.Machine
end

