-- ==== Sys2Proof/Machine/Lines.lean ====
section
/-! DEFINITION. The Input Lines: sampling, qualification, decimation and the line requests (spec/05). -/

namespace Sys2Proof.Machine

/-- The edge mode counts a qualified change to `level` (R99, R100): a rising edge is a change to 1. -/
def EdgeMode.counts : EdgeMode → Level → Bool
  | .off, _ => false
  | .rise, level => level
  | .fall, level => !level
  | .both, _ => true

/-- A sample of the pin at `level` completes a run of the new value (R98): at once when q is 0, at the q x 16-th sample otherwise. -/
def Line.completes (x : Line) (level : Level) : Bool :=
  x.qualified != level && (x.q == 0 || decide (x.q * 16 ≤ x.stable + 1))

/-- The edge of a qualified change to `level` completes the decimation count (R101). -/
def Line.offersEdge (x : Line) (level : Level) : Bool :=
  x.mode.counts level && decide (2 ^ x.d ≤ x.decim + 1)

/-- A line's record after a sample that changes the qualified level (R98, R99, R101). -/
def Line.qualify (x : Line) (level : Level) : Line :=
  { x with
    raw := level, qualified := level, stable := 0, sampleDue := false
    decim := if x.mode.counts level then (if 2 ^ x.d ≤ x.decim + 1 then 0 else x.decim + 1) else x.decim }

/-- A line's record after a sample that does not (R97, R98). -/
def Line.sampled (x : Line) (level : Level) : Line :=
  { x with raw := level, sampleDue := false, stable := if x.qualified = level then 0 else x.stable + 1 }

/-- A qualified change (R99, R101, R102): the new level is handed to every trip group, and an edge that completes the decimation
count is offered to the journal. -/
def qualifyLine (i : LineId) (level : Level) (s : State) : State :=
  let x := s.line i
  let t := s.setLine i (x.qualify level)
  { t with
    lineMsgs := t.lineMsgs ++ (List.finRange 4).map fun g =>
      { group := g, line := i, level := level, clk := s.clock .lines }
    offers := if x.offersEdge level then t.offers ++ [{ body := .edge i level, clk := s.clock .lines }] else t.offers }

/-- One sample of a line (R97, R98, R99). -/
def sampleLine (i : LineId) (level : Level) (s : State) : State :=
  if (s.line i).completes level then qualifyLine i level s else s.setLine i ((s.line i).sampled level)

/-- LINE_SAMPLE (R97): out of the reset state, the line takes the sample of one TCLK period (entry 24). -/
def lineSampleEvent (i : LineId) (level : Level) (s : State) : State :=
  if s.inReset then s else sampleLine i level s

/-- The meaning of LINE_SAMPLE. -/
def execLineSample (i : LineId) (level : Level) (s : State) : Host.Outcome State Fault Refusal :=
  .next (lineSampleEvent i level s)

/-- QUALIFIED_CHANGE (R99): a sample that changes the qualified level; a qualified change is taken in the sample event that makes it
(entry 11). -/
def qualifiedChangeEvent (i : LineId) (level : Level) (s : State) : State :=
  if s.inReset = false ∧ (s.line i).completes level = true then qualifyLine i level s else s

/-- The meaning of QUALIFIED_CHANGE. -/
def execQualifiedChange (i : LineId) (level : Level) (s : State) : Host.Outcome State Fault Refusal :=
  .next (qualifiedChangeEvent i level s)

/-- LINE_CONFIG (R105): edge mode, q and d take the new values and both counts return to 0. -/
def lineConfigRequest (p : Port) (payload : List Byte) (s : State) : State × Answer :=
  match lineConfigArgs payload with
  | none => (s, refuse .badArg)
  | some (i, mode, q, d) =>
    if s.isCoordinator p then
      (s.setLine i { s.line i with mode := mode, q := q, d := d, decim := 0, stable := 0 }, okEmpty)
    else (s, refuse .notHolder)

/-- The meaning of LINE_CONFIG. -/
def execLineConfig (p : Port) (s : State) : Host.Outcome State Fault Refusal :=
  .next (takeRequest .lineConfig .lines p (lineConfigRequest p) s)

/-- LINES (R108). -/
def linesRequest (_payload : List Byte) (s : State) : State × Answer :=
  (s, okWith s.linesPayload)

/-- The meaning of LINES. -/
def execLines (p : Port) (s : State) : Host.Outcome State Fault Refusal :=
  .next (takeRequest .lines .lines p linesRequest s)

end Sys2Proof.Machine
end

