-- ==== Sys2Proof/Machine/Journal.lean ====
section
/-! DEFINITION. The Capture Journal: storing, losing and reading entries, subscriptions and the journal-ready latch (spec/06). -/

namespace Sys2Proof.Machine

/-! ### Entries and positions (R112, R113, R115) -/

/-- The kind bit of a line (R113, R186). -/
def lineKind (i : LineId) : KindMask := BitVec.ofNat 14 (2 ^ i.val)

/-- The MARK bit (R186). -/
def markKind : KindMask := BitVec.ofNat 14 (2 ^ 12)

/-- The TRIP bit (R186). -/
def tripKind : KindMask := BitVec.ofNat 14 (2 ^ 13)

/-- The kind bits by which an entry is matched: its own, or a GAP's lost kinds (R113, R115). -/
def EntryBody.kinds : EntryBody → KindMask
  | .edge i _ _ _ _ => lineKind i
  | .mark _ _ _ _ => markKind
  | .trip _ _ _ _ _ => tripKind
  | .gap _ kinds _ => kinds

/-- The kind bit of the entry that an offer would make (R115). -/
def OfferBody.kind : OfferBody → KindMask
  | .edge i _ => lineKind i
  | .mark _ _ _ => markKind
  | .trip _ _ => tripKind

/-- An entry matches a subscription's mask (R115). -/
def JournalEntry.hits (e : JournalEntry) (mask : KindMask) : Bool := e.body.kinds &&& mask != 0

/-- The tail sequence (R112). -/
def Journal.tailSeq (j : Journal) : SeqNum :=
  match j.ring with
  | e :: _ => e.seq
  | [] => j.seqCounter

/-- The position of a sequence number, counted from the tail (R112). -/
def Journal.position (j : Journal) (n : SeqNum) : Nat := (n - j.tailSeq).toNat

/-- The entries at or after a cursor (R112, R125). -/
def Journal.fromCursor (j : Journal) (cursor : SeqNum) : List JournalEntry := j.ring.drop (j.position cursor)

/-- At least one entry at or after the cursor matches (R116, R126). -/
def Journal.more (j : Journal) (sub : Subscription) : Bool := (j.fromCursor sub.cursor).any fun e => e.hits sub.mask

/-- A subscription needs the tail entry `e` (R115). -/
def Subscription.needs (sub : Subscription) (e : JournalEntry) : Bool :=
  sub.mode == .keep && sub.cursor == e.seq && e.hits sub.mask

/-- The tail entry is needed (R115): by a KEEP subscription of a port in any session state. -/
def Journal.tailNeeded (j : Journal) : Bool :=
  match j.ring with
  | [] => false
  | e :: _ =>
    (List.finRange 4).any fun p =>
      match j.subs[p] with
      | some sub => sub.needs e
      | none => false

/-- An offer is wanted (R115): its kind bit is in the mask of a subscription whose port is OPEN. -/
def State.offerWanted (s : State) (o : OfferBody) : Bool :=
  (List.finRange 4).any fun p =>
    s.isOpen p && (match s.sub p with
      | some sub => o.kind &&& sub.mask != 0
      | none => false)

/-! ### Storing (R119, R120, R128) -/

/-- A subscription after the tail `old` has been dropped, the new tail sequence being `new` (R120): a cursor that held the old tail
moves, and a SKIM subscription so moved is OVERTAKEN. -/
def Subscription.passTail (sub : Subscription) (old new : SeqNum) : Subscription :=
  if sub.cursor = old then { sub with cursor := new, overtaken := sub.overtaken || sub.mode == .skim } else sub

/-- The journal with its tail entry dropped and the cursors that held it moved (R120). -/
def Journal.dropTail (j : Journal) : Journal :=
  let after : Journal := { j with ring := j.ring.tail }
  { after with subs := mapRecords j.subs fun _ x => x.map fun sub => sub.passTail j.tailSeq after.tailSeq }

/-- Room for one entry: the tail of a full ring is dropped (R119, R120). -/
def Journal.makeRoom (j : Journal) : Journal :=
  if Config.journalCapacity ≤ j.ring.length then j.dropTail else j

/-- An entry put at the head with the next sequence number (R112). -/
def Journal.push (j : Journal) (body : EntryBody) : Journal :=
  { j with ring := j.ring ++ [{ seq := j.seqCounter, body := body }], seqCounter := j.seqCounter + 1 }

/-- The JOURNAL_READY check of one port for a stored entry (R128, R181): the latch is set in the event that posts. -/
def readyCheck (e : JournalEntry) (s : State) (p : Port) : State :=
  match s.sub p with
  | none => s
  | some sub =>
    if s.isOpen p ∧ e.hits sub.mask = true ∧ (s.queue p).latch = false then
      (s.setQueue p { s.queue p with latch := true }).post .journal p
        ⟨.journalReady, 0, e.seq.toNat % 2 ^ 24, s.tb.machTime⟩
    else s

/-- An entry stored at the head, a full ring's tail dropped, and the JOURNAL_READY check (R119, R120, R128). -/
def storeEntry (body : EntryBody) (s : State) : State :=
  let e : JournalEntry := { seq := s.journal.seqCounter, body := body }
  (List.finRange 4).foldl (readyCheck e) { s with journal := s.journal.makeRoom.push body }

/-- The pending GAP, stored when losses are pending and the tail is not needed (R123); the pending-loss record is emptied. -/
def storeGap (s : State) : State :=
  if s.journal.lostCount ≠ 0 ∧ s.journal.tailNeeded = false then
    storeEntry (.gap s.journal.lostCount s.journal.lostMask s.wallLow)
      { s with journal := { s.journal with lostCount := 0, lostMask := 0 } }
  else s

/-- A wanted offer lost (R121). -/
def Journal.lose (j : Journal) (kind : KindMask) : Journal :=
  { j with lostCount := min (j.lostCount + 1) Config.max16, lostMask := j.lostMask ||| kind }

/-- The entry that an offer makes, stamped now (R114); a mark carries the machine time of its tick (R35). -/
def State.stampOffer (s : State) : OfferBody → EntryBody
  | .edge i rising => .edge i rising s.tb.machTime s.wallLow (!s.tb.running)
  | .mark p tag mach => .mark p tag mach s.wallLow
  | .trip g i => .trip g i s.tb.machTime s.wallLow (!s.tb.running)

/-- An offer taken (R118 to R121): discarded, stored at the head, stored by dropping the tail, or lost. -/
def takeOffer (o : OfferBody) (s : State) : State :=
  if s.offerWanted o then
    if s.journal.ring.length < Config.journalCapacity ∨ s.journal.tailNeeded = false then storeEntry (s.stampOffer o) s
    else { s with journal := s.journal.lose o.kind }
  else s

/-- The source of an offer (R118). -/
def OfferBody.source : OfferBody → OfferSource
  | .edge i _ => .line i
  | .mark _ _ _ => .schedule
  | .trip g _ => .group g

/-- JOURNAL_OFFER (R118): the oldest offer of the source is taken. -/
def journalOfferEvent (src : OfferSource) (s : State) : State :=
  match s.offers.find? fun o => o.body.source == src with
  | none => s
  | some o => takeOffer o.body (({ s with offers := s.offers.erase o } : State).hear .journal o.clk)

/-- The meaning of JOURNAL_OFFER. -/
def execJournalOffer (src : OfferSource) (s : State) : Host.Outcome State Fault Refusal := .next (journalOfferEvent src s)

/-! ### Requests -/

/-- SUBSCRIBE (R116). -/
def subscribeRequest (p : Port) (payload : List Byte) (s : State) : State × Answer :=
  match subscribeArgs payload with
  | none => (s, refuse .badArg)
  | some (mask, mode, oldest) =>
    match s.sub p with
    | some _ => (s, refuse .subscribed)
    | none =>
      let sub : Subscription :=
        { mask := mask, mode := mode, cursor := if oldest then s.journal.tailSeq else s.journal.seqCounter }
      (s.setSub p (some sub), okWith (subscribePayload sub.cursor (s.journal.more sub)))

/-- The meaning of SUBSCRIBE. -/
def execSubscribe (p : Port) (s : State) : Host.Outcome State Fault Refusal :=
  .next (takeRequest .subscribe .journal p (subscribeRequest p) s)

/-- The journal-ready latch of a port cleared (R129, R181). -/
def State.clearLatch (s : State) (p : Port) : State := s.setQueue p { s.queue p with latch := false }

/-- UNSUBSCRIBE (R117). -/
def unsubscribeRequest (p : Port) (_payload : List Byte) (s : State) : State × Answer :=
  match s.sub p with
  | none => (s, refuse .notSubscribed)
  | some _ => (storeGap ((s.setSub p none).clearLatch p), okEmpty)

/-- The meaning of UNSUBSCRIBE. -/
def execUnsubscribe (p : Port) (s : State) : Host.Outcome State Fault Refusal :=
  .next (takeRequest .unsubscribe .journal p (unsubscribeRequest p) s)

/-- READ's examination of entries (R125): up to `n` matching ones, and how many were examined, stopping after the n-th. -/
def examine (mask : KindMask) : (n : Nat) → List JournalEntry → List JournalEntry × Nat
  | _, [] => ([], 0)
  | 0, _ :: _ => ([], 0)
  | n + 1, e :: rest =>
    if e.hits mask then
      let r := examine mask n rest
      (e :: r.1, r.2 + 1)
    else
      let r := examine mask (n + 1) rest
      (r.1, r.2 + 1)

/-- READ's third and fourth steps (R126): the flags are settled, OVERTAKEN is cleared, and the latch is cleared when MORE is clear. -/
def settleRead (p : Port) (entries : List JournalEntry) (s : State) : State × Answer :=
  match s.sub p with
  | none => (s, okWith (readPayload false false entries))
  | some sub =>
    let more := s.journal.more sub
    let t := s.setSub p (some { sub with overtaken := false })
    (if more then t else t.clearLatch p, okWith (readPayload more sub.overtaken entries))

/-- READ (R125, R126): the entries are chosen and the cursor moves; a pending GAP is stored when the tail is freed; the flags are
settled. -/
def readRequest (p : Port) (payload : List Byte) (s : State) : State × Answer :=
  match readArg payload with
  | none => (s, refuse .badArg)
  | some n =>
    match s.sub p with
    | none => (s, refuse .notSubscribed)
    | some sub =>
      let found := examine sub.mask n (s.journal.fromCursor sub.cursor)
      let moved := s.setSub p (some { sub with cursor := sub.cursor + BitVec.ofNat 32 found.2 })
      settleRead p found.1 (storeGap moved)

/-- The meaning of READ. -/
def execRead (p : Port) (s : State) : Host.Outcome State Fault Refusal :=
  .next (takeRequest .read .journal p (readRequest p) s)

/-- JOURNAL_TEARDOWN (R130): the port's subscription is removed, a pending GAP is stored when that frees the tail, and the part is
reported done. -/
def journalTeardownEvent (p : Port) (s : State) : State :=
  match (s.port p).parts.journal with
  | .handed clk =>
    let t := s.hear .journal clk
    let u := match t.sub p with
      | some _ => storeGap (t.setSub p none)
      | none => t
    u.setPort p { u.port p with parts := { (u.port p).parts with journal := .reported (u.clock .journal) } }
  | _ => s

/-- The meaning of JOURNAL_TEARDOWN. -/
def execJournalTeardown (p : Port) (s : State) : Host.Outcome State Fault Refusal := .next (journalTeardownEvent p s)

end Sys2Proof.Machine
end

