-- ==== Sys2Proof/Machine/Groups.lean ====
section
/-! DEFINITION. The Trip Groups: configuration, arming, the trip and its locks and purge (spec/07). -/

namespace Sys2Proof.Machine

/-! ### The trip (R140 to R143) -/

/-- The oldest qualified change of line `i` handed to group `g` that the group has not taken (R99, R140). -/
def State.nextLineMsg (s : State) (g : GroupId) (i : LineId) : Option LineMsg :=
  s.lineMsgs.find? fun m => m.group == g && m.line == i

/-- The group trips on a qualified change of line `i` to `level` (R140). -/
def Group.tripsOn (x : Group) (i : LineId) (level : Level) : Bool :=
  x.state == .armed && x.sources.getLsbD i.val && x.active == level

/-- The hand-overs of a group to each channel of a set: locks or unlocks (R139, R141). -/
def lockMsgsTo (g : GroupId) (lock : Bool) (cs : ChanSet) (clk : Clock) : List LockMsg :=
  (chansOf cs).map fun c => { group := g, chan := c, lock := lock, clk := clk }

/-- The ports to which a trip posts TRIPPED: the holder of T and the holders of channels of the set, each once (R143). -/
def State.trippedPorts (s : State) (cs : ChanSet) : List Port :=
  (List.finRange 4).filter fun p => s.isCoordinator p || (chansOf cs).any fun c => s.chanHolder c == some p

/-- The trip of group `g` by line `i` (R141): TRIPPED with its last trip, the locks handed, the trip record offered, TRIPPED posted. What
the event hands over has its posts in its past, so TRIPPED comes ahead of every DROPPED that the trip causes (R143, R174). -/
def tripGroup (g : GroupId) (i : LineId) (s : State) : State :=
  let x := s.group g
  let t := s.setGroup g { x with
    state := .tripped, last := some (i, s.tb.machTime), locksOut := (chansOf x.channels).length }
  let u := t.postEach .groups ⟨.tripped, g.val, i.val, s.tb.machTime⟩ (s.trippedPorts x.channels)
  { u with
    lockMsgs := u.lockMsgs ++ lockMsgsTo g true x.channels (u.clock .groups)
    offers := u.offers ++ [{ body := .trip g i, clk := u.clock .groups }] }

/-- GROUP_LINE_CHANGE (R140): the group takes a qualified change, and trips when it is ARMED, the line is a source and the level is
the active one. -/
def groupLineChangeEvent (g : GroupId) (i : LineId) (s : State) : State :=
  match s.nextLineMsg g i with
  | none => s
  | some m =>
    let t := ({ s with lineMsgs := s.lineMsgs.erase m } : State).hear .groups m.clk
    if (t.group g).tripsOn i m.level then tripGroup g i t else t

/-- The meaning of GROUP_LINE_CHANGE. -/
def execGroupLineChange (g : GroupId) (i : LineId) (s : State) : Host.Outcome State Fault Refusal :=
  .next (groupLineChangeEvent g i s)

/-- LOCK_REPORT (R142): the locks outstanding decrease by 1; at 0 the group hands the schedule a purge of its whole channel set. The oldest
report of the group is taken first (entry 32: DESIGN CHOICE). -/
def lockReportEvent (g : GroupId) (s : State) : State :=
  match (s.group g).reports with
  | [] => s
  | clk :: later =>
    let t := s.hear .groups clk
    let x := t.group g
    t.setGroup g { x with
      reports := later
      locksOut := x.locksOut - 1
      purges := if x.locksOut = 1 then x.purges ++ [{ channels := x.channels, clk := t.clock .groups }] else x.purges }

/-- The meaning of LOCK_REPORT. -/
def execLockReport (g : GroupId) (s : State) : Host.Outcome State Fault Refusal := .next (lockReportEvent g s)

/-! ### Requests -/

/-- TRIP_CONFIG (R136). -/
def tripConfigRequest (p : Port) (payload : List Byte) (s : State) : State × Answer :=
  match tripConfigArgs payload with
  | none => (s, refuse .badArg)
  | some (g, sources, active, channels) =>
    if s.isCoordinator p then
      if (s.group g).state ≠ .disarmed then (s, refuse .notDisarmed)
      else if (s.group g).locksOut ≠ 0 then (s, refuse .locksPending)
      else
        (s.setGroup g { s.group g with sources := sources, active := active, channels := channels, last := none }, okEmpty)
    else (s, refuse .notHolder)

/-- The meaning of TRIP_CONFIG. -/
def execTripConfig (p : Port) (s : State) : Host.Outcome State Fault Refusal :=
  .next (takeRequest .tripConfig .groups p (tripConfigRequest p) s)

/-- A source line of the group has its qualified level at the active level (R104, R137). -/
def State.sourceActive (s : State) (g : GroupId) : Bool :=
  (List.finRange 12).any fun i => (s.group g).sources.getLsbD i.val && (s.line i).qualified == (s.group g).active

/-- A group takes a state that is not TRIPPED; when it was TRIPPED, an unlock is handed to every channel of its set (R139). -/
def leaveTripped (g : GroupId) (state : GroupState) (s : State) : State :=
  let x := s.group g
  let t := s.setGroup g { x with state := state }
  if x.state = .tripped then
    { t with lockMsgs := t.lockMsgs ++ lockMsgsTo g false x.channels (s.clock .groups) }
  else t

/-- ARM (R137). -/
def armRequest (p : Port) (payload : List Byte) (s : State) : State × Answer :=
  match groupArg payload with
  | none => (s, refuse .badArg)
  | some g =>
    let x := s.group g
    if s.isCoordinator p then
      if x.locksOut ≠ 0 then (s, refuse .locksPending)
      else if x.state = .armed then (s, okEmpty)
      else if x.sources = 0 ∨ x.channels = 0 then (s, refuse .badArg)
      else if s.sourceActive g then (s, refuse .lineActive)
      else (leaveTripped g .armed s, okEmpty)
    else (s, refuse .notHolder)

/-- The meaning of ARM. -/
def execArm (p : Port) (s : State) : Host.Outcome State Fault Refusal :=
  .next (takeRequest .arm .groups p (armRequest p) s)

/-- DISARM (R138). -/
def disarmRequest (p : Port) (payload : List Byte) (s : State) : State × Answer :=
  match groupArg payload with
  | none => (s, refuse .badArg)
  | some g =>
    if s.isCoordinator p then (leaveTripped g .disarmed s, okEmpty)
    else (s, refuse .notHolder)

/-- The meaning of DISARM. -/
def execDisarm (p : Port) (s : State) : Host.Outcome State Fault Refusal :=
  .next (takeRequest .disarm .groups p (disarmRequest p) s)

/-- TRIPS (R147). -/
def tripsRequest (_payload : List Byte) (s : State) : State × Answer :=
  (s, okWith s.tripsPayload)

/-- The meaning of TRIPS. -/
def execTrips (p : Port) (s : State) : Host.Outcome State Fault Refusal :=
  .next (takeRequest .trips .groups p tripsRequest s)

end Sys2Proof.Machine
end

