-- ==== Sys2Proof/Machine/Notices.lean ====
section
/-! DEFINITION. The Notice Queues: taking a post, overflow, NOTICES and the queue's part of a teardown (spec/09). -/

namespace Sys2Proof.Machine

/-! ### Storing a post (R175 to R177) -/

/-- The notice is a NOTICES_LOST (R176). -/
def Notice.isLost (n : Notice) : Bool := n.kind == .noticesLost

/-- A NOTICES_LOST with one more post counted into it, up to 65535 (R177). -/
def Notice.countLost (n : Notice) : Notice :=
  if n.isLost then { n with detail := min (n.detail + 1) Config.max16 } else n

/-- A queue after a post that its port takes while OPEN: counted into a NOTICES_LOST that stands (R177), stored at the tail
(R175), or lost with a NOTICES_LOST stored in its place (R176). -/
def NoticeQueue.take (x : NoticeQueue) (n : Notice) : NoticeQueue :=
  if x.notices.any Notice.isLost then { x with notices := x.notices.map Notice.countLost }
  else if x.notices.length < Config.noticeRoom then { x with notices := x.notices ++ [n] }
  else { x with notices := x.notices ++ [⟨.noticesLost, 0, 1, n.stamp⟩] }

/-- The oldest post of block `b` to port `p` (R174). -/
def State.nextPost (s : State) (p : Port) (b : PostBlock) : Option Post :=
  s.posts.find? fun x => x.port == p && x.block == b

/-- Another post to the same port was made earlier in a chain of events that leads to `x`, and is to be taken first (R174). -/
def State.postBlocked (s : State) (x : Post) : Bool :=
  s.posts.any fun y => y.port == x.port && y != x && y.precedes x

/-- The port takes notices of this post (R173): it is OPEN and the post is of its present session. -/
def State.postWelcome (s : State) (x : Post) : Bool :=
  s.isOpen x.port && x.session == (s.port x.port).sessions

/-- NOTICE_POST (R173, R174): the queue takes the block's oldest post to the port, when no post that comes before it waits; a post
to a port not OPEN or of an earlier session is discarded. -/
def noticePostEvent (p : Port) (b : PostBlock) (s : State) : State :=
  match s.nextPost p b with
  | none => s
  | some x =>
    if s.postBlocked x then s
    else
      let t := ({ s with posts := s.posts.erase x } : State).hear (.queue p) x.clk
      if t.postWelcome x then t.setQueue p ((t.queue p).take x.notice) else t

/-- The meaning of NOTICE_POST. -/
def execNoticePost (p : Port) (b : PostBlock) (s : State) : Host.Outcome State Fault Refusal :=
  .next (noticePostEvent p b s)

/-! ### NOTICES (R178) -/

/-- NOTICES: up to n notices leave from the front and are returned; the latch stays as it is. -/
def noticesRequest (p : Port) (payload : List Byte) (s : State) : State × Answer :=
  match noticesArg payload with
  | none => (s, refuse .badArg)
  | some n =>
    let x := s.queue p
    (s.setQueue p { x with notices := x.notices.drop n }, okWith (noticesPayload (x.notices.take n)))

/-- The meaning of NOTICES. -/
def execNotices (p : Port) (s : State) : Host.Outcome State Fault Refusal :=
  .next (takeRequest .notices (.queue p) p (noticesRequest p) s)

/-! ### At session end (R182) -/

/-- NOTICE_TEARDOWN: the queue is emptied, the latch cleared, and the part reported done. -/
def noticeTeardownEvent (p : Port) (s : State) : State :=
  match (s.port p).parts.notices with
  | .handed clk =>
    let t := (s.hear (.queue p) clk).setQueue p {}
    t.setPort p { t.port p with parts := { (t.port p).parts with notices := .reported (t.clock (.queue p)) } }
  | _ => s

/-- The meaning of NOTICE_TEARDOWN. -/
def execNoticeTeardown (p : Port) (s : State) : Host.Outcome State Fault Refusal := .next (noticeTeardownEvent p s)

end Sys2Proof.Machine
end

