-- ==== Sys2Proof/Machine/Ports.lean ====
section
/-! DEFINITION. The Master Ports: transactions, the request engine, the session, its teardown, and the ports' own requests
(spec/08). -/

namespace Sys2Proof.Machine

/-! ### Transactions (R150 to R153) -/

/-- TRANSACTION_START (R150): the chip select falls; out of the reset state the status byte and the head reply are fixed. -/
def transactionStartEvent (p : Port) (s : State) : State :=
  let x := s.port p
  if x.csLow then s
  else if s.inReset then s.setPort p { x with csLow := true }
  else s.setPort p { x with csLow := true, txn := some { status := s.statusByte p, head := x.replies.head? } }

/-- The meaning of TRANSACTION_START. -/
def execTransactionStart (p : Port) (s : State) : Host.Outcome State Fault Refusal := .next (transactionStartEvent p s)

/-- A frame is accepted when it is judged (R153). -/
def PortRec.accepts (x : PortRec) (crcRight : Bool) : Bool :=
  crcRight && decide (x.requests.length < Config.queueDepth) && x.session != .closing

/-- A port that has judged a whole frame (R153; entry 26). -/
def PortRec.judge (x : PortRec) (f : Frame) (crcRight : Bool) : PortRec :=
  if x.accepts crcRight then { x with requests := x.requests ++ [f], discard := false, crcErr := false }
  else { x with discard := true, crcErr := x.crcErr || !crcRight }

/-- A port that has discarded a frame too long or incomplete (R152, R153). -/
def PortRec.discarded (x : PortRec) : PortRec := { x with discard := true }

/-- The transaction's frame has been judged. -/
def PortRec.markJudged (x : PortRec) : PortRec := { x with txn := x.txn.map fun t => { t with judged := true } }

/-- FRAME_JUDGE (R152, R153): the bytes shifted in so far show a length above 28 or complete a frame. -/
def frameJudgeEvent (p : Port) (bytes : List Byte) (s : State) : State :=
  let x := s.port p
  match x.txn with
  | some { judged := false, .. } =>
    match scanFrame bytes with
    | .null => s
    | .short => s
    | .tooLong => s.setPort p x.discarded.markJudged
    | .whole f crcRight => s.setPort p (x.judge f crcRight).markJudged
  | _ => s

/-- The meaning of FRAME_JUDGE. -/
def execFrameJudge (p : Port) (bytes : List Byte) (s : State) : Host.Outcome State Fault Refusal :=
  .next (frameJudgeEvent p bytes s)

/-- What the end of a transaction does with a frame not judged before it: an incomplete one is discarded, and one complete at the
last byte is judged now (R152, R153; entry 6). -/
def PortRec.judgeAtEnd (x : PortRec) (t : Transaction) (bytes : List Byte) : PortRec :=
  if t.judged then x
  else
    match scanFrame bytes with
    | .null => x
    | .short => x.discarded
    | .tooLong => x.discarded
    | .whole f crcRight => x.judge f crcRight

/-- The head reply has been shifted out whole, behind the status byte, in `n` bytes, and is still in the queue (R151). -/
def Transaction.sentHead (t : Transaction) (n : Nat) : Bool :=
  match t.head with
  | some r => !t.headFlushed && decide (r.bytes.length + 1 ≤ n)
  | none => false

/-- TRANSACTION_END (R151, R152): the chip select rises; a head reply shifted out whole leaves the queue. -/
def transactionEndEvent (p : Port) (bytes : List Byte) (s : State) : State :=
  let x := s.port p
  if x.csLow then
    match x.txn with
    | none => s.setPort p { x with csLow := false }
    | some t =>
      let y := x.judgeAtEnd t bytes
      s.setPort p { y with
        csLow := false, txn := none, replies := if t.sentHead bytes.length then y.replies.tail else y.replies }
  else s

/-- The meaning of TRANSACTION_END. -/
def execTransactionEnd (p : Port) (bytes : List Byte) (s : State) : Host.Outcome State Fault Refusal :=
  .next (transactionEndEvent p bytes s)

/-! ### The request engine (R156 to R159) -/

/-- The reply to a request frame: kind and sequence number copied from it (R159). -/
def Frame.reply (f : Frame) (a : Answer) : Reply := { kind := f.kind, seq := f.seq, code := a.code, payload := a.payload }

/-- The request kinds that an IDLE port may send (R158). -/
def ReqKind.needsNoSession : ReqKind → Bool
  | .attach => true
  | .ident => true
  | .time => true
  | _ => false

/-- The code of the first common check that a frame fails, if any (R158). -/
def PortRec.commonRefusal (x : PortRec) (f : Frame) : Option ReplyCode :=
  match kindOf f.kind with
  | none => some .badKind
  | some k =>
    if x.session = .idle ∧ k.needsNoSession = false then some .noSession
    else if lengthOk k f.payload then none
    else some .badLength

/-- The engine can take a request (R157, R163). -/
def PortRec.engineReady (x : PortRec) : Bool :=
  x.inHand.isNone && decide (x.replies.length < Config.queueDepth) && x.session != .closing

/-- An OPEN port's session renewed (R162). -/
def PortRec.renewed (x : PortRec) (wall : Nat) : PortRec :=
  if x.session = .opened then { x with lastActivity := wall } else x

/-- ENGINE_TAKE (R157, R158, R162): the head frame leaves the request queue and renews an OPEN session; a frame that fails a common
check is answered at once, any other is handed to its block. -/
def engineTakeEvent (p : Port) (s : State) : State :=
  let x := s.port p
  match x.requests with
  | [] => s
  | f :: later =>
    if x.engineReady then
      let y := ({ x with requests := later } : PortRec).renewed s.tb.wallTime
      match x.commonRefusal f with
      | some code => s.setPort p { y with replies := y.replies ++ [f.reply (refuse code)] }
      | none => s.setPort p { y with inHand := some { frame := f, stage := .handed (s.clock (.port p)) } }
    else s

/-- The meaning of ENGINE_TAKE. -/
def execEngineTake (p : Port) (s : State) : Host.Outcome State Fault Refusal := .next (engineTakeEvent p s)

/-! ### Teardown (R165, R166) -/

/-- The port becomes CLOSING and its request queue is flushed (R165). -/
def PortRec.close (x : PortRec) (cause : CloseCause) : PortRec :=
  { x with session := .closing, cause := some cause, requests := [] }

/-- The port hands its teardown to the four blocks (R165). -/
def PortRec.handParts (x : PortRec) (clk : Clock) : PortRec :=
  { x with partsOut := 4, parts := ⟨.handed clk, .handed clk, .handed clk, .handed clk⟩ }

/-- ANSWER_TAKEN (R156, R157, R165): the engine places the answer of the request in hand; in a port that has lapsed the parts of the
teardown are handed in the same event. -/
def answerTakenEvent (p : Port) (s : State) : State :=
  match (s.port p).inHand with
  | some { frame, stage := .answered a clk } =>
    let t := s.hear (.port p) clk
    let x := t.port p
    let y : PortRec := { x with replies := x.replies ++ [frame.reply a], inHand := none }
    t.setPort p (if x.session = .closing ∧ x.cause = some .lapsed then y.handParts (t.clock (.port p)) else y)
  | _ => s

/-- The meaning of ANSWER_TAKEN. -/
def execAnswerTaken (p : Port) (s : State) : Host.Outcome State Fault Refusal := .next (answerTakenEvent p s)

/-- The session has been silent for longer than its term (R163). -/
def State.lapseDue (s : State) (p : Port) : Bool :=
  s.isOpen p && (match (s.port p).term with
    | some term => decide (term + 1 ≤ s.wallSince (s.port p).lastActivity)
    | none => false)

/-- The request in hand is a DETACH, which then only waits for the teardown (R164, R165; entry 13). -/
def InHand.isDetach (h : InHand) : Bool := h.frame.kind == ReqKind.detach.byte

/-- LAPSE (R163, R165): the port becomes CLOSING; it hands its teardown at once unless a request in hand has still to be answered. The
wall tick continues no chain from the Timebase (entry 30: DESIGN CHOICE). -/
def lapseEvent (p : Port) (s : State) : State :=
  if s.lapseDue p then
    let x := (s.port p).close .lapsed
    match x.inHand with
    | none => s.setPort p (x.handParts (s.clock (.port p)))
    | some h =>
      if h.isDetach then
        s.setPort p ({ x with inHand := some { h with stage := .detaching } }.handParts (s.clock (.port p)))
      else s.setPort p x
  else s

/-- The meaning of LAPSE. -/
def execLapse (p : Port) (s : State) : Host.Outcome State Fault Refusal := .next (lapseEvent p s)

/-- The part of one block in a teardown. -/
def Parts.get (x : Parts) : PartBlock → PartStage
  | .schedule => x.schedule
  | .leases => x.leases
  | .journal => x.journal
  | .notices => x.notices

/-- The part of one block in a teardown, cleared. -/
def Parts.clear (x : Parts) : PartBlock → Parts
  | .schedule => { x with schedule := .idle }
  | .leases => { x with leases := .idle }
  | .journal => { x with journal := .idle }
  | .notices => { x with notices := .idle }

/-- The end of a teardown (R166): a DETACH is answered OK; a lapse flushes the reply queue, the fixed head reply of a transaction in
progress included, and sets the lapsed display. -/
def PortRec.finishTeardown (x : PortRec) : PortRec :=
  let y := { x with session := .idle, term := none, cause := none, inHand := none, partsOut := 0 }
  match x.cause with
  | some .lapsed =>
    { y with lapsed := true, replies := [], txn := y.txn.map fun t => { t with headFlushed := true } }
  | _ =>
    { y with
      lapsed := false
      replies := y.replies ++ (match x.inHand with
        | some h => [h.frame.reply okEmpty]
        | none => []) }

/-- TEARDOWN_REPORT (R165, R166): the port takes a block's report; the last one ends the teardown. -/
def teardownReportEvent (p : Port) (b : PartBlock) (s : State) : State :=
  match (s.port p).parts.get b with
  | .reported clk =>
    let t := s.hear (.port p) clk
    let x : PortRec := { t.port p with parts := (t.port p).parts.clear b, partsOut := (t.port p).partsOut - 1 }
    t.setPort p (if x.partsOut = 0 then x.finishTeardown else x)
  | _ => s

/-- The meaning of TEARDOWN_REPORT. -/
def execTeardownReport (p : Port) (b : PartBlock) (s : State) : Host.Outcome State Fault Refusal :=
  .next (teardownReportEvent p b s)

/-! ### The ports' own requests -/

/-- ATTACH (R161). -/
def attachRequest (p : Port) (payload : List Byte) (s : State) : State × Answer :=
  match attachTerm payload with
  | none => (s, refuse .badArg)
  | some term =>
    let x := s.port p
    if x.session = .idle then
      (s.setPort p { x with
          session := .opened, term := some term, lastActivity := s.tb.wallTime, lapsed := false, resetFlag := false,
          sessions := x.sessions + 1 },
        okWith (attachPayload p s.tb.wallTime))
    else (s, refuse .alreadyOpen)

/-- The meaning of ATTACH. -/
def execAttach (p : Port) (s : State) : Host.Outcome State Fault Refusal :=
  .next (takeRequest .attach (.port p) p (attachRequest p) s)

/-- DETACH (R164, R165): the port becomes CLOSING, the DETACH stays in hand, and the parts are handed in the same event. -/
def detachEvent (p : Port) (s : State) : State :=
  match s.handedRequest p .detach, (s.port p).inHand with
  | some _, some h =>
    if s.isOpen p then
      s.setPort p ({ (s.port p).close .detach with inHand := some { h with stage := .detaching } }.handParts (s.clock (.port p)))
    else s
  | _, _ => s

/-- The meaning of DETACH. -/
def execDetach (p : Port) (s : State) : Host.Outcome State Fault Refusal := .next (detachEvent p s)

/-- IDENT (R168). -/
def identRequest (_payload : List Byte) (s : State) : State × Answer :=
  (s, okWith identPayload)

/-- The meaning of IDENT. -/
def execIdent (p : Port) (s : State) : Host.Outcome State Fault Refusal :=
  .next (takeRequest .ident (.port p) p identRequest s)

end Sys2Proof.Machine
end

