-- ==== Sys2Proof/Machine/Reset.lean ====
section
/-! DEFINITION. The reset state: entering it, its release, and power (R18). -/

namespace Sys2Proof.Machine

/-- Every block at its reset values, in or out of the reset state. The chip selects are pins and the commands that wait come from
outside: both stay as they are (entries 5 and 23). -/
def State.cleared (s : State) (inReset seenLow : Bool) : State :=
  { State.reset with
    inReset := inReset
    resetSeenLow := seenLow
    ports := mapRecords State.reset.ports fun p x => { x with csLow := (s.port p).csLow }
    pending := s.pending }

/-- RESET_ENTRY (R18): RESET sampled low for `lowPeriods` consecutive TCLK periods; fewer than 16 are ignored (entry 3). -/
def resetEntryEvent (lowPeriods : Nat) (s : State) : State :=
  if lowPeriods < Config.resetPeriods then s else s.cleared true true

/-- The meaning of RESET_ENTRY. -/
def execResetEntry (lowPeriods : Nat) (s : State) : Host.Outcome State Fault Refusal :=
  .next (resetEntryEvent lowPeriods s)

/-- A line at its first sample (R96, R97). -/
def Line.atRelease (level : Level) : Line := { raw := level, qualified := level }

/-- RESET_RELEASE (R18, R97): RESET sampled high ends the reset state, once RESET has been low for 16 periods; each line's raw sample
and qualified level take the pin's level. -/
def resetReleaseEvent (pins : LineSet) (s : State) : State :=
  if s.inReset ∧ s.resetSeenLow then
    { s.cleared false true with lines := Vector.ofFn fun i => Line.atRelease (pins.getLsbD i.val) }
  else s

/-- The meaning of RESET_RELEASE. -/
def execResetRelease (pins : LineSet) (s : State) : Host.Outcome State Fault Refusal := .next (resetReleaseEvent pins s)

/-- POWER_APPLIED (R18): the part is in the reset state until RESET is released after having been low for 16 TCLK periods. -/
def powerAppliedEvent (s : State) : State := s.cleared true false

/-- The meaning of POWER_APPLIED. -/
def execPowerApplied (s : State) : Host.Outcome State Fault Refusal := .next (powerAppliedEvent s)

end Sys2Proof.Machine
end

