-- ==== Sys2Proof/Machine/Dispatch.lean ====
section
/-! DEFINITION. One arm per command: its meaning. -/

namespace Sys2Proof.Machine

def exec (i : Instr) (s : State) : Host.Outcome State Fault Refusal :=
  match i with
  | .resetEntry lowPeriods => Sys2Proof.Machine.execResetEntry lowPeriods s
  | .resetRelease pins => Sys2Proof.Machine.execResetRelease pins s
  | .powerApplied => Sys2Proof.Machine.execPowerApplied s
  | .wallTick => Sys2Proof.Machine.execWallTick s
  | .machineTick => Sys2Proof.Machine.execMachineTick s
  | .stepBoundary => Sys2Proof.Machine.execStepBoundary s
  | .creepHoldStart => Sys2Proof.Machine.execCreepHoldStart s
  | .creepHoldEnd => Sys2Proof.Machine.execCreepHoldEnd s
  | .timeEnd => Sys2Proof.Machine.execTimeEnd s
  | .transactionStart p => Sys2Proof.Machine.execTransactionStart p s
  | .frameJudge p bytes => Sys2Proof.Machine.execFrameJudge p bytes s
  | .transactionEnd p bytes => Sys2Proof.Machine.execTransactionEnd p bytes s
  | .engineTake p => Sys2Proof.Machine.execEngineTake p s
  | .answerTaken p => Sys2Proof.Machine.execAnswerTaken p s
  | .attach p => Sys2Proof.Machine.execAttach p s
  | .detach p => Sys2Proof.Machine.execDetach p s
  | .ident p => Sys2Proof.Machine.execIdent p s
  | .time p => Sys2Proof.Machine.execTime p s
  | .pace p => Sys2Proof.Machine.execPace p s
  | .setclock p => Sys2Proof.Machine.execSetclock p s
  | .settime p => Sys2Proof.Machine.execSettime p s
  | .claim p => Sys2Proof.Machine.execClaim p s
  | .release p => Sys2Proof.Machine.execRelease p s
  | .leases p => Sys2Proof.Machine.execLeases p s
  | .submit p => Sys2Proof.Machine.execSubmit p s
  | .cancel p => Sys2Proof.Machine.execCancel p s
  | .cancelChannel p => Sys2Proof.Machine.execCancelChannel p s
  | .query p => Sys2Proof.Machine.execQuery p s
  | .schedule p => Sys2Proof.Machine.execSchedule p s
  | .channelConfig p => Sys2Proof.Machine.execChannelConfig p s
  | .channels p => Sys2Proof.Machine.execChannels p s
  | .lineConfig p => Sys2Proof.Machine.execLineConfig p s
  | .lines p => Sys2Proof.Machine.execLines p s
  | .tripConfig p => Sys2Proof.Machine.execTripConfig p s
  | .arm p => Sys2Proof.Machine.execArm p s
  | .disarm p => Sys2Proof.Machine.execDisarm p s
  | .trips p => Sys2Proof.Machine.execTrips p s
  | .subscribe p => Sys2Proof.Machine.execSubscribe p s
  | .unsubscribe p => Sys2Proof.Machine.execUnsubscribe p s
  | .read p => Sys2Proof.Machine.execRead p s
  | .notices p => Sys2Proof.Machine.execNotices p s
  | .scheduleTick slice => Sys2Proof.Machine.execScheduleTick slice s
  | .application => Sys2Proof.Machine.execApplication s
  | .channelTick c => Sys2Proof.Machine.execChannelTick c s
  | .pulseEnd c => Sys2Proof.Machine.execPulseEnd c s
  | .trainEdge c => Sys2Proof.Machine.execTrainEdge c s
  | .holdLimitExpiry r => Sys2Proof.Machine.execHoldLimitExpiry r s
  | .revocation r => Sys2Proof.Machine.execRevocation r s
  | .waitLimitExpiry r p => Sys2Proof.Machine.execWaitLimitExpiry r p s
  | .leaseEndPurge c => Sys2Proof.Machine.execLeaseEndPurge c s
  | .purgeReport c => Sys2Proof.Machine.execPurgeReport c s
  | .leaseEndShare c => Sys2Proof.Machine.execLeaseEndShare c s
  | .grantStep c => Sys2Proof.Machine.execGrantStep c s
  | .lineSample n level => Sys2Proof.Machine.execLineSample n level s
  | .qualifiedChange n level => Sys2Proof.Machine.execQualifiedChange n level s
  | .groupLineChange g n => Sys2Proof.Machine.execGroupLineChange g n s
  | .lock c g => Sys2Proof.Machine.execLock c g s
  | .lockReport g => Sys2Proof.Machine.execLockReport g s
  | .tripPurge g => Sys2Proof.Machine.execTripPurge g s
  | .unlock c g => Sys2Proof.Machine.execUnlock c g s
  | .journalOffer src => Sys2Proof.Machine.execJournalOffer src s
  | .noticePost p b => Sys2Proof.Machine.execNoticePost p b s
  | .lapse p => Sys2Proof.Machine.execLapse p s
  | .scheduleTeardown p => Sys2Proof.Machine.execScheduleTeardown p s
  | .leaseTeardown p => Sys2Proof.Machine.execLeaseTeardown p s
  | .journalTeardown p => Sys2Proof.Machine.execJournalTeardown p s
  | .noticeTeardown p => Sys2Proof.Machine.execNoticeTeardown p s
  | .teardownReport p b => Sys2Proof.Machine.execTeardownReport p b s

end Sys2Proof.Machine
end

