-- ==== Sys2Proof/Machine/Idle.lean ====
section
/-! DEFINITION. What the part does when no command waits: an event that the clock has brought and that has not been taken, else one
more TCLK period (entry 1). -/

namespace Sys2Proof.Machine

/-- What a channel has still to take of the last machine tick (R60 to R62): the edge that is due, else its count. -/
def channelDue (s : State) (c : Chan) : Option Instr :=
  match (s.chan c).wave with
  | some { kind := .pulse, ticksLeft := 0, .. } => some (.pulseEnd c)
  | some { kind := .train _ _ _ _, ticksLeft := 0, .. } => some (.trainEdge c)
  | _ => if (s.chan c).tick.isSome then some (.channelTick c) else none

/-- What the schedule has still to take of the last machine tick (R30, R34). -/
def scheduleDue (s : State) : Option Instr :=
  match s.sched.work with
  | some { handed := some _, .. } => some .application
  | some _ => some (.scheduleTick Config.fireBudget)
  | none => if s.sched.tick.isSome then some (.scheduleTick Config.fireBudget) else none

/-- A machine tick whose time has come: first what the last one brought, then the tick (R2; entry 7). -/
def machineDue (s : State) : Option Instr :=
  if s.tb.machTickDue && s.tb.running && decide (s.tb.machTime < Config.lastMachTime) then
    ((scheduleDue s).or ((List.finRange 16).findSome? (channelDue s))).or (some .machineTick)
  else none

/-- An event of the pace that a tick or the clock has brought (R7, R8, R9). -/
def paceDue (s : State) : Option Instr :=
  if s.tb.timeEndDue then some .timeEnd
  else if s.tb.boundaryDue ∧ s.tb.mode = .step then some .stepBoundary
  else if s.tb.boundaryDue ∧ s.tb.mode = .creep then some .creepHoldStart
  else if s.tb.holdEndDue ∧ s.tb.mode = .creep ∧ s.tb.creepHolding then some .creepHoldEnd
  else none

/-- A sample that is due and was not commanded: the pin is at the level of the sample before (R97; entry 20). -/
def sampleDueAt (s : State) : Option Instr :=
  ((List.finRange 12).find? fun i => (s.line i).sampleDue).map fun i => .lineSample i (s.line i).raw

/-- A limit that wall time has passed: a session's term, a hold limit, a wait limit (R84, R87, R163; entry 17). -/
def limitDue (s : State) : Option Instr :=
  (((List.finRange 4).find? s.lapseDue).map Instr.lapse).or <|
  (((List.finRange 17).find? fun r => s.contested r && !(s.lease r).revokeDue).map Instr.holdLimitExpiry).or <|
  (List.finRange 17).findSome? fun r =>
    ((s.lease r).queue.find? s.claimExpired).map fun c => Instr.waitLimitExpiry r c.port

/-- The event that comes before the next TCLK period, if any. -/
def forcedEvent (s : State) : Option Instr :=
  (paceDue s).or <| (machineDue s).or <| (if s.tb.wallTickDue then some .wallTick else none).or <|
    (sampleDueAt s).or (limitDue s)

/-- The step on an empty queue (entry 1). -/
def idle (s : State) : Host.Outcome State Fault Refusal :=
  match forcedEvent s with
  | some c => exec c s
  | none => .next (clockPeriod s)

end Sys2Proof.Machine
end

