-- ==== Sys2Proof/Safety.lean ====
section
/-! DEFINITION. What holds of the part in every state a run reaches, block by block, as the spec states it; and the words in which
claims speak of an answered request. -/

namespace Sys2Proof.Machine

/-! ### Invariants -/

/-- The Timebase's ranges and what goes with each pace (R1, R2, R4, R7, R8, R9). -/
structure Timebase.Ok (tb : Timebase) : Prop where
  wallTime : tb.wallTime < Config.wallModulus
  wallPrescale : tb.wallPrescale ≤ Config.wallPrescaleLast
  machTime : tb.machTime ≤ Config.lastMachTime
  tdiv : 1 ≤ tb.tdiv ∧ tb.tdiv ≤ 256
  cycle : 16 ≤ tb.cycle ∧ tb.cycle ≤ 16777216
  factor : 2 ≤ tb.factor ∧ tb.factor ≤ 16
  machPrescale : tb.machPrescale < tb.tdiv
  stopped : tb.running = false → tb.machPrescale = 0 ∧ tb.machTickDue = false
  steps : if tb.mode = .step then 1 ≤ tb.pendingSteps ∧ tb.pendingSteps ≤ Config.maxSteps else tb.pendingSteps = 0
  holding : tb.creepHolding = true → tb.mode = .creep
  holdCount : tb.holdCount ≤ 15 * 16777216 * 256
  countsDown : tb.creepHolding = false → tb.holdCount = 0 ∧ tb.holdEndDue = false
  boundary : tb.boundaryDue = true → tb.mode = .step ∨ (tb.mode = .creep ∧ tb.creepHolding = false)
  timeEndDue : tb.timeEndDue = true → tb.machTime = Config.lastMachTime
  timeEnd : tb.machTime = Config.lastMachTime → tb.timeEndDue = true ∨ tb.mode = .hold

/-- An action's fields are in range (R19, R24). -/
def Action.Ok : Action → Prop
  | .set _ _ => True
  | .pulse _ width => 1 ≤ width ∧ width ≤ Config.max24
  | .train _ period onTime pulses =>
    2 ≤ period ∧ period ≤ Config.max24 ∧ 1 ≤ onTime ∧ onTime ≤ period - 1 ∧ pulses ≤ Config.max16
  | .groupSet mask _ => mask ≠ 0
  | .mark => True

/-- What a SUBMIT may ask for (R24): its fields are in range, and a counted repeat asks for at least one. -/
structure Entry.Askable (e : Entry) : Prop where
  action : e.action.Ok
  due : e.due ≤ Config.lastMachTime
  interval : ∀ r, e.rep = some r → 1 ≤ r.interval ∧ r.interval < 2 ^ 32
  remaining : ∀ r n, e.rep = some r → r.remaining = some n → 1 ≤ n ∧ n ≤ Config.max16

/-- One entry stands before another in the list (R21). -/
def Entry.before (a b : Entry) : Prop := a.due < b.due ∨ (a.due = b.due ∧ a.seq < b.seq)

/-- The entries that a port owns (R19). -/
def Schedule.ownedBy (sc : Schedule) (p : Port) : List Entry := sc.entries.filter fun e => e.owner == p

/-- The entries of the tick in hand that have still to leave or be re-inserted (R30). -/
def Work.open (w : Work) : List Entry := w.handed.toList ++ w.rest

/-- The list's order, capacity, quotas, counts and tags (R19, R21, R22, R23). -/
structure Schedule.Ok (sc : Schedule) : Prop where
  capacity : sc.entries.length ≤ Config.scheduleCapacity
  order : sc.entries.Pairwise Entry.before
  tags : sc.entries.Pairwise fun a b => a.tag ≠ b.tag
  tagRange : ∀ e ∈ sc.entries, 1 ≤ e.tag ∧ e.tag ≤ Config.max16
  fresh : ∀ e ∈ sc.entries, e.seq < sc.insertions
  due : ∀ e ∈ sc.entries, e.due ≤ Config.lastMachTime
  counts : ∀ p : Port, sc.counts[p] = (sc.ownedBy p).length
  quota : ∀ p : Port, sc.counts[p] ≤ Config.portQuota
  counter : 1 ≤ sc.tagCounter ∧ sc.tagCounter ≤ Config.max16
  work : ∀ w, sc.work = some w →
    (∀ e ∈ w.open, e ∈ sc.entries) ∧ w.open.Pairwise fun a b => a.tag ≠ b.tag

/-- A LOCKED channel stands at its safe level with nothing in flight (R69), and a waveform's level goes with its phase (R52). -/
structure Channel.Ok (x : Channel) : Prop where
  locked : x.lockSet ≠ 0 → x.wave = none ∧ x.level = x.safe
  phase : ∀ w, x.wave = some w → x.level = if w.active then !w.rest else w.rest
  pulse : ∀ w, x.wave = some w → w.kind = .pulse → w.active = true

/-- At most one holder, who does not wait; no port waits twice (R75); a resource that nobody holds and that is not ending has no
claimant (R74). -/
structure Lease.Ok (x : Lease) : Prop where
  once : x.queue.Pairwise fun a b => a.port ≠ b.port
  holderOut : ∀ c ∈ x.queue, x.holder ≠ some c.port
  ending : x.ending.isSome → x.holder = none
  free : x.holder = none → x.ending = none → x.queue = []
  revoke : x.revokeDue = true → x.holder.isSome

/-- Each lease record, and a lease end on T is over in the event that takes it (R94). -/
structure State.LeasesOk (s : State) : Prop where
  each : ∀ r, (s.lease r).Ok
  timeline : (s.lease timeline).ending = none

/-- A line's counts (R96). -/
structure Line.Ok (x : Line) : Prop where
  q : x.q ≤ 255
  d : x.d ≤ 7
  stable : x.stable < max 1 (x.q * 16)
  decim : x.decim < 2 ^ x.d

/-- Sequence numbers run consecutively from a first one (R111). -/
def consecutive : SeqNum → List JournalEntry → Prop
  | _, [] => True
  | n, e :: rest => e.seq = n ∧ consecutive (n + 1) rest

/-- The ring, its numbers, the cursors, and the pending losses (R111, R112, R115, R122). -/
structure Journal.Ok (j : Journal) : Prop where
  capacity : j.ring.length ≤ Config.journalCapacity
  numbers : consecutive j.tailSeq j.ring
  counter : j.seqCounter = j.tailSeq + BitVec.ofNat 32 j.ring.length
  cursors : ∀ (p : Port) (sub : Subscription), j.subs[p] = some sub → j.position sub.cursor ≤ j.ring.length
  masks : ∀ (p : Port) (sub : Subscription), j.subs[p] = some sub → sub.mask ≠ 0
  keep : ∀ (p : Port) (sub : Subscription), j.subs[p] = some sub → sub.mode = .keep → sub.overtaken = false
  lost : j.lostCount ≤ Config.max16
  lostKinds : j.lostCount = 0 ↔ j.lostMask = 0
  pending : j.lostCount ≠ 0 → j.ring.length = Config.journalCapacity ∧ j.tailNeeded = true

/-- The locks of group `g` handed to channels and not yet taken (R142). -/
def State.locksInFlight (s : State) (g : GroupId) : Nat :=
  (s.lockMsgs.filter fun m => m.lock && m.group == g).length

/-- A group's record, with the locks of its trip accounted for (R135, R137, R142). -/
structure State.GroupOk (s : State) (g : GroupId) : Prop where
  locks : (s.group g).locksOut = s.locksInFlight g + (s.group g).reports.length
  atMost : (s.group g).locksOut ≤ 16
  armed : (s.group g).state = .armed →
    (s.group g).sources ≠ 0 ∧ (s.group g).channels ≠ 0 ∧ (s.group g).locksOut = 0
  tripped : (s.group g).state = .tripped → (s.group g).last.isSome

/-- How many parts of a teardown are not yet done and reported to the port (R165). -/
def Parts.outstanding (x : Parts) : Nat :=
  ([x.schedule, x.leases, x.journal, x.notices].filter fun y => y != .idle).length

/-- Reply slots in use, the reserved one counted (R156). -/
def PortRec.slots (x : PortRec) : Nat := x.replies.length + (if x.inHand.isSome then 1 else 0)

/-- A port's queues, session and teardown (R149, R155, R156, R164 to R166). -/
structure PortRec.Ok (x : PortRec) : Prop where
  requests : x.requests.length ≤ Config.queueDepth
  replies : x.slots ≤ Config.queueDepth
  term : x.term.isSome ↔ x.session ≠ .idle
  termRange : ∀ n, x.term = some n → Config.minTerm ≤ n ∧ n ≤ Config.max24
  cause : x.cause.isSome ↔ x.session = .closing
  flushed : x.session = .closing → x.requests = []
  parts : x.partsOut = x.parts.outstanding
  teardown : 0 < x.partsOut → x.session = .closing
  waiting : x.session = .closing → x.partsOut = 0 →
    x.cause = some .lapsed ∧ ∃ h, x.inHand = some h ∧ h.stage ≠ .detaching
  detaching : ∀ h, x.inHand = some h → h.stage = .detaching → 0 < x.partsOut
  closed : 0 < x.partsOut → ∀ h, x.inHand = some h → h.stage = .detaching
  answered : x.cause = some .detach → x.inHand.isSome

/-- A queue's length, and the place of a NOTICES_LOST (R171, R176, R177). -/
structure NoticeQueue.Ok (x : NoticeQueue) : Prop where
  length : x.notices.length ≤ Config.noticeRoom + 1
  last : ∀ n ∈ x.notices.dropLast, n.isLost = false
  room : Config.noticeRoom < x.notices.length → ∃ n ∈ x.notices, n.isLost = true
  count : ∀ n ∈ x.notices, n.isLost = true → 1 ≤ n.detail ∧ n.detail ≤ Config.max16

/-- Every queue, and no block posts a NOTICES_LOST (9.4). -/
structure State.NoticesOk (s : State) : Prop where
  queues : ∀ p, (s.queue p).Ok
  posts : ∀ x ∈ s.posts, x.notice.isLost = false

/-! ### Words for claims -/

/-- Between two states the request in hand at port `p` has been answered with `a` and nothing else of any port has changed. -/
def State.Answered (s t : State) (p : Port) (a : Answer) : Prop :=
  ∃ h clk, (s.port p).inHand = some h ∧
    t.ports = (s.setPort p { s.port p with inHand := some { h with stage := .answered a clk } }).ports

/-- Between two states the request in hand at port `p` has been refused and nothing else has changed but who has heard of what. -/
def State.Refused (s t : State) (p : Port) (code : ReplyCode) : Prop :=
  s.Answered t p (refuse code) ∧ t = { s with clocks := t.clocks, ports := t.ports }

/-- The post `x` lies in a past (R174). -/
def Post.inPast (x : Post) (k : Clock) : Prop := x.clk.get x.block ≤ k.get x.block

/-- Between two states exactly these posts have been made, in this order: block, port and notice. -/
def State.Posted (s t : State) (posts : List (PostBlock × Port × Notice)) : Prop :=
  ∃ new : List Post, t.posts = s.posts ++ new ∧ new.map (fun x => (x.block, x.port, x.notice)) = posts ∧
    ∀ x ∈ new, x.session = (s.port x.port).sessions

/-- The schedule's post for an entry that fired at a tick with machine time `t` (R36, R190). -/
def firedPosts (t : Nat) (e : Entry) : List (PostBlock × Port × Notice) :=
  if t ≤ e.due then (if e.notify then [(.schedule, e.owner, ⟨.fired, e.tag, 0, t⟩)] else [])
  else [(.schedule, e.owner, ⟨.late, e.tag, min (t - e.due) 16777215, t⟩)]

/-- The guard of an entry is not met: its line's qualified level is not the one required (R33, R103). -/
def State.guardFails (s : State) (e : Entry) : Prop :=
  ∃ g, e.guard = some g ∧ (s.line g.line).qualified ≠ g.level

/-- Between two states the tick with machine time `time` goes on with the entries `rest`, the marks taken at it so far being `marks`. While
entries are left the journal is offered nothing; with none left the tick is done, and the journal is offered each of its marks, in order
(R30, R35). -/
def State.TickGoesOn (s t : State) (time ordinal : Nat) (marks : List (Port × Nat)) (rest : List Entry) : Prop :=
  if rest = [] then
    t.sched.work = none ∧ ∃ new : List Offer, t.offers = s.offers ++ new ∧
      new.map Offer.body = marks.map fun m => .mark m.1 m.2 time
  else
    t.sched.work.map (fun w => (w.handed, w.rest, w.time, w.ordinal, w.marks)) = some (none, rest, time, ordinal, marks) ∧
    t.offers = s.offers

/-- Between two states the schedule has taken the entry `e` of the tick with machine time `time`, `marks` having been taken and `rest`
being left of that tick (R30, R33 to R37): it is skipped, or its mark is taken, and its repeat is dealt with; or its action is handed to
the channels. -/
def State.TakesEntry (s t : State) (time ordinal : Nat) (marks : List (Port × Nat)) (e : Entry) (rest : List Entry) : Prop :=
  t = { s with sched := t.sched, clocks := t.clocks, posts := t.posts, offers := t.offers } ∧
  (s.guardFails e ∨ e.action = .mark →
    t.sched = { s.sched.settleRepeat e with tick := t.sched.tick, work := t.sched.work }) ∧
  (s.guardFails e →
    s.Posted t [(.schedule, e.owner, ⟨.skipped, e.tag, min (time - e.due) 16777215, time⟩)] ∧
    s.TickGoesOn t time ordinal marks rest) ∧
  (¬ s.guardFails e → e.action = .mark →
    s.Posted t (firedPosts time e) ∧ s.TickGoesOn t time ordinal (marks ++ [(e.owner, e.tag)]) rest) ∧
  (¬ s.guardFails e → e.action ≠ .mark →
    s.Posted t [] ∧ t.offers = s.offers ∧ t.sched = { s.sched with tick := t.sched.tick, work := t.sched.work } ∧
    t.sched.work.map (fun w => (w.handed, w.rest, w.time, w.ordinal, w.marks)) = some (some e, rest, time, ordinal, marks))

/-- Between two states the grant step of resource `r` has been taken, after the posts `first` of the same event (R82, R94): the first
claimant that is not CLOSING is the new holder, with GRANTED carrying `level`; with no such claimant nobody holds the resource. -/
def State.GrantsNext (s t : State) (r : ResId) (level : Nat) (first : List (PostBlock × Port × Notice)) : Prop :=
  (∀ before claim after, (s.lease r).queue = before ++ claim :: after → (∀ x ∈ before, s.isClosing x.port = true) →
    s.isClosing claim.port = false →
    t.lease r = { s.lease r with
      holder := some claim.port, grantWall := s.tb.wallTime, holdLimit := claim.hold, queue := after, ending := none,
      revokeDue := false } ∧
    s.Posted t (first ++ [(.leases, claim.port, ⟨.granted, r.val, level, s.tb.machTime⟩)])) ∧
  ((∀ x ∈ (s.lease r).queue, s.isClosing x.port = true) →
    t.lease r = { s.lease r with holder := none, queue := [], ending := none, revokeDue := false } ∧ s.Posted t first)

/-- Between two states the qualified level of line `i` has changed to `level` in one sample (R99 to R102): the new level is handed to each
trip group; an edge that the mode selects is counted, and the one that completes 2^d is offered to the journal. -/
def State.QualifiesLine (s t : State) (i : LineId) (level : Level) : Prop :=
  t.line i = { s.line i with
    raw := level, qualified := level, stable := 0, sampleDue := false, decim := (t.line i).decim } ∧
  t.lineMsgs.map (fun m => (m.group, m.line, m.level)) =
    s.lineMsgs.map (fun m => (m.group, m.line, m.level)) ++ [(0, i, level), (1, i, level), (2, i, level), (3, i, level)] ∧
  (let counted : Bool := match (s.line i).mode with
      | .off => false
      | .rise => level
      | .fall => !level
      | .both => true
    if counted then
      if (s.line i).decim + 1 < 2 ^ (s.line i).d then
        (t.line i).decim = (s.line i).decim + 1 ∧ t.offers = s.offers
      else (t.line i).decim = 0 ∧ ∃ o : Offer, o.body = .edge i level ∧ t.offers = s.offers ++ [o]
    else (t.line i).decim = (s.line i).decim ∧ t.offers = s.offers)

/-- A kind mask holds the kind bit of what an offer says (R113, R115, R186). -/
def OfferBody.within (o : OfferBody) (mask : KindMask) : Prop :=
  match o with
  | .edge i _ => mask.getLsbD i.val = true
  | .mark _ _ _ => mask.getLsbD 12 = true
  | .trip _ _ => mask.getLsbD 13 = true

/-- A kind mask matches an entry: it holds the entry's kind bit, or one of a GAP's lost kinds (R113, R115, R186). -/
def EntryBody.within (e : EntryBody) (mask : KindMask) : Prop :=
  match e with
  | .edge i _ _ _ _ => mask.getLsbD i.val = true
  | .mark _ _ _ _ => mask.getLsbD 12 = true
  | .trip _ _ _ _ _ => mask.getLsbD 13 = true
  | .gap _ kinds _ => ∃ k, kinds.getLsbD k = true ∧ mask.getLsbD k = true

/-- An OPEN port's subscription matches the lost kinds, and so the GAP that they make (R115, R128). -/
def State.readsGap (s : State) (p : Port) : Bool :=
  s.isOpen p && (match s.sub p with
    | some sub => (s.journal.lostMask &&& sub.mask) != 0
    | none => false)

/-- Losses are pending and the tail is not needed: the journal stores the GAP in this event (R123). -/
def State.gapDue (s : State) : Bool := s.journal.lostCount != 0 && !s.journal.tailNeeded

/-- Between a state in which one event has changed a subscription and a later state of the same event, the journal has stored the
GAP if it is due, and has changed nothing else (R120, R123, R128). -/
def State.GapSettled (s t : State) : Prop :=
  if s.gapDue then
    t.journal.ring = s.journal.ring.tail ++
      [⟨s.journal.seqCounter, .gap s.journal.lostCount s.journal.lostMask (s.tb.wallTime % 2 ^ 32)⟩] ∧
    t.journal.seqCounter = s.journal.seqCounter + 1 ∧ t.journal.lostCount = 0 ∧ t.journal.lostMask = 0 ∧
    (∀ p, t.sub p = (s.sub p).map fun sub => if sub.cursor = s.journal.tailSeq then
        { sub with cursor := t.journal.tailSeq, overtaken := sub.overtaken || sub.mode == .skim } else sub) ∧
    (∀ p, t.queue p = { s.queue p with latch := (s.queue p).latch || s.readsGap p }) ∧
    s.Posted t (((List.finRange 4).filter fun p => s.readsGap p && !(s.queue p).latch).map
      fun p => (.journal, p, ⟨.journalReady, 0, s.journal.seqCounter.toNat % 2 ^ 24, s.tb.machTime⟩))
  else t.journal = s.journal ∧ t.queues = s.queues ∧ s.Posted t []

/-- The channel's post for a waveform that the action of tag `tag` displaces (R54, R190). -/
def supersededPosts (x : Channel) (tag now : Nat) : List (PostBlock × Port × Notice) :=
  match x.wave with
  | none => []
  | some w => [(.channels, w.owner, ⟨.superseded, w.tag, tag, now⟩)]

end Sys2Proof.Machine
end

