-- ==== Sys2Proof/Certificates/Slice0/Obligations.lean ====
section
/-! DEFINITION. The statements for the provers. Where a statement rests on a choice of the model, its docstring names the log
entry. -/

open Sys2Proof Sys2Proof.Machine

/-! ### The queue of commands and the clock -/

/-- A step runs the command at the front of the queue on the state with the rest of the queue. On an empty queue an event that the clock
has brought is run, and else one TCLK period passes (the model's choice, entry 1): each prescale count advances and every line's next
sample is due, and in the reset state nothing counts (R18). -/
def Obligations.StepRunsFrontCommandOrClock : Prop :=
  (∀ (c : Instr) (rest : List Instr) (s : State), s.pending = c :: rest → step s = exec c { s with pending := rest }) ∧
  (∀ s : State, s.pending = [] →
      (∀ c, forcedEvent s = some c → step s = exec c s) ∧
      (forcedEvent s = none → s.inReset = true → step s = .next s) ∧
      (forcedEvent s = none → s.inReset = false →
        ∃ t, step s = .next t ∧ t = { s with tb := s.tb.clocked, lines := t.lines } ∧
          ∀ i, t.line i = { s.line i with sampleDue := true }))

/-- Counting TCLK periods: a wall tick is due after 1024 of them (R1); in a running mode a machine tick is due after TDIV of them
(R2); a creep hold of n periods is over after n of them (R8). -/
def Obligations.ClockCountsPeriods : Prop :=
  ∀ tb : Timebase,
    (tb.wallPrescale = 0 → tb.wallTickDue = false →
      (∀ n, n ≤ 1023 → (Nat.repeat Timebase.clocked n tb).wallPrescale = n ∧
        (Nat.repeat Timebase.clocked n tb).wallTickDue = false) ∧
      (Nat.repeat Timebase.clocked 1024 tb).wallTickDue = true) ∧
    (tb.running = true → tb.machPrescale = 0 → tb.machTickDue = false → 1 ≤ tb.tdiv →
      (∀ n, n < tb.tdiv → (Nat.repeat Timebase.clocked n tb).machPrescale = n ∧
        (Nat.repeat Timebase.clocked n tb).machTickDue = false) ∧
      (Nat.repeat Timebase.clocked tb.tdiv tb).machTickDue = true) ∧
    (tb.mode = .creep → tb.creepHolding = true → tb.holdEndDue = false → 1 ≤ tb.holdCount →
      (∀ n, n < tb.holdCount → (Nat.repeat Timebase.clocked n tb).holdCount = tb.holdCount - n ∧
        (Nat.repeat Timebase.clocked n tb).holdEndDue = false) ∧
      (Nat.repeat Timebase.clocked tb.holdCount tb).holdEndDue = true)

/-- WALL_TICK outside the reset state (R1): wall time goes on by 1. MACHINE_TICK while the running condition holds and everything the
last tick brought has been taken (entry 7): machine time and the ordinal go on by 1, and the tick is offered to the schedule and to
the channels with a waveform in flight (R2, R3). The command stands for the periods up to the tick (entry 24). -/
def Obligations.TicksAdvanceTheTwoTimes : Prop :=
  (∀ s : State, s.inReset = false →
      exec .wallTick s = .next { s with tb := { s.tb with
        wallTickDue := false, wallPrescale := 0, wallTime := (s.tb.wallTime + 1) % 2 ^ 48 } }) ∧
  (∀ s : State, s.tb.running = true → s.tb.timeEndDue = false → s.tb.boundaryWaits = false →
      s.tb.machTime < 2 ^ 48 - 1 → s.tickDone = true →
      ∃ t, exec .machineTick s = .next t ∧ t = { s with tb := t.tb, sched := t.sched, chans := t.chans } ∧
        t.tb = { s.tb with
          machTime := s.tb.machTime + 1, ordinal := s.tb.ordinal + 1, machPrescale := 0, machTickDue := false,
          timeEndDue := t.tb.timeEndDue, boundaryDue := t.tb.boundaryDue } ∧
        (t.tb.timeEndDue = true ↔ s.tb.machTime + 1 = 2 ^ 48 - 1) ∧
        (t.tb.boundaryDue = true ↔ s.tb.machTime + 1 ≠ 2 ^ 48 - 1 ∧ (s.tb.machTime + 1) % s.tb.cycle = 0 ∧
          (s.tb.mode = .step ∨ s.tb.mode = .creep)) ∧
        t.sched = { s.sched with tick := some ⟨s.tb.machTime + 1, s.tb.ordinal + 1, s.clock .timebase⟩ } ∧
        ∀ c, t.chan c = if (s.chan c).wave.isSome then
            { s.chan c with tick := some ⟨s.tb.machTime + 1, s.tb.ordinal + 1, s.clock .timebase⟩ }
          else s.chan c)

/-- STEP_BOUNDARY (R7): one pending step is used; the last one makes the pace HOLD, with PACE of cause STEPS_DONE to every OPEN port.
The boundary is a mark that the tick has left, taken by a command after it (entry 9). CREEP_HOLD_START and CREEP_HOLD_END (R8): a hold
of (factor - 1) x CYCLE x TDIV periods begins at a boundary; CREEP_HOLD_END, which stands for the hold's periods having passed, whatever
the hold count (the model's choice, entry 24), begins the run phase with the prescale count at 0, and no notice is posted. -/
def Obligations.BoundariesEndStepsAndCreepRuns : Prop :=
  (∀ s : State, s.tb.boundaryDue = true → s.tb.mode = .step →
      (2 ≤ s.tb.pendingSteps →
        exec .stepBoundary s = .next { s with tb := { s.tb with
          boundaryDue := false, pendingSteps := s.tb.pendingSteps - 1 } }) ∧
      (s.tb.pendingSteps ≤ 1 →
        ∃ t, exec .stepBoundary s = .next t ∧ t = { s with tb := t.tb, clocks := t.clocks, posts := t.posts } ∧
          t.tb = { s.tb with
            mode := .hold, pendingSteps := 0, creepHolding := false, holdCount := 0, holdEndDue := false, machPrescale := 0,
            machTickDue := false, boundaryDue := false } ∧
          s.Posted t (s.openPorts.map fun p => (.timebase, p, ⟨.pace, 0, 2 * 65536 + 1 * 256, s.tb.machTime⟩)))) ∧
  (∀ s : State, s.tb.mode = .creep →
      (s.tb.boundaryDue = true →
        exec .creepHoldStart s = .next { s with tb := { s.tb with
          boundaryDue := false, creepHolding := true, machPrescale := 0, machTickDue := false,
          holdCount := (s.tb.factor - 1) * s.tb.cycle * s.tb.tdiv } }) ∧
      (s.tb.creepHolding = true →
        exec .creepHoldEnd s = .next { s with tb := { s.tb with
          holdEndDue := false, creepHolding := false, holdCount := 0, machPrescale := 0 } }))

/-- TIME_END (R9): the pace becomes HOLD, and TIME_END and then PACE of cause TIME_END go to every OPEN port. That holds in every mode in
force: after a PACE(HOLD) taken between the tick and TIME_END both notices are still posted, with mode before HOLD (the model's
reading, entry 28). -/
def Obligations.TimeEndHoldsAndReports : Prop :=
  ∀ s : State, s.tb.timeEndDue = true →
    ∃ t, exec .timeEnd s = .next t ∧ t = { s with tb := t.tb, clocks := t.clocks, posts := t.posts } ∧
      t.tb = { s.tb with
        mode := .hold, pendingSteps := 0, creepHolding := false, holdCount := 0, holdEndDue := false, machPrescale := 0,
        machTickDue := false, boundaryDue := false, timeEndDue := false } ∧
      s.Posted t ((s.openPorts.map fun p => (.timebase, p, ⟨.timeEnd, 0, 0, s.tb.machTime⟩)) ++
        s.openPorts.map fun p =>
          (.timebase, p, ⟨.pace, 0, s.tb.mode.code * 65536 + 2 * 256, s.tb.machTime⟩))

/-! ### Requests of the Timebase -/

/-- PACE from the coordinator with arguments in range (R11, R12): the answer and the new pace by the mode requested and the mode in force,
machine time at 2^48 - 1 refusing every mode but HOLD; a change of mode posts PACE to every OPEN port. The two times, the tick ordinal,
the wall prescale count, TDIV and CYCLE stay as they are, and so does the creep factor when the mode requested is not CREEP (R8). A change
of mode abandons a hold phase (R8), keeps a machine tick that TCLK has brought only while the running condition held and goes on holding
(R2), and makes a boundary not yet taken one of the mode left (the model's reading, entry 9). -/
def Obligations.PaceFollowsTable : Prop :=
  ∀ (p : Port) (s : State) (payload : List Byte) (clk : Clock) (mode : PaceMode) (factor : Nat),
    s.handedRequest p .pace = some (payload, clk) → paceArgs payload = some (mode, factor) → s.isCoordinator p = true →
    ∃ t, exec (.pace p) s = .next t ∧
      t = { s with tb := t.tb, clocks := t.clocks, posts := t.posts, ports := t.ports } ∧
      (s.Answered t p okEmpty ∨ (s.Answered t p (refuse .badPace) ∧ t.tb = s.tb)) ∧
      s.Posted t (if t.tb.mode = s.tb.mode then [] else
        s.openPorts.map fun q => (.timebase, q,
          ⟨.pace, mode.code, s.tb.mode.code * 65536 + t.tb.pendingSteps, s.tb.machTime⟩)) ∧
      t.tb = { s.tb with
        mode := t.tb.mode, pendingSteps := t.tb.pendingSteps, factor := t.tb.factor, creepHolding := t.tb.creepHolding,
        holdCount := t.tb.holdCount, holdEndDue := t.tb.holdEndDue, machPrescale := t.tb.machPrescale,
        machTickDue := t.tb.machTickDue, boundaryDue := t.tb.boundaryDue } ∧
      (mode ≠ .creep → t.tb.factor = s.tb.factor) ∧
      (t.tb.mode ≠ s.tb.mode →
        t.tb.creepHolding = false ∧ t.tb.holdCount = 0 ∧ t.tb.holdEndDue = false ∧ t.tb.boundaryDue = false ∧
        t.tb.machTickDue = (t.tb.mode != .hold && s.tb.running && s.tb.machTickDue)) ∧
      (if s.tb.machTime = 2 ^ 48 - 1 ∧ mode ≠ .hold then s.Answered t p (refuse .badPace)
      else
        match mode, s.tb.mode with
        | .hold, .hold => s.Answered t p okEmpty ∧ t.tb = s.tb
        | .hold, _ => s.Answered t p okEmpty ∧ t.tb.mode = .hold ∧ t.tb.pendingSteps = 0 ∧ t.tb.machPrescale = 0
        | .run, .run => s.Answered t p okEmpty ∧ t.tb = s.tb
        | .run, .hold => s.Answered t p okEmpty ∧ t.tb.mode = .run ∧ t.tb.machPrescale = 0 ∧ t.tb.pendingSteps = 0
        | .run, .step => s.Answered t p okEmpty ∧ t.tb.mode = .run ∧ t.tb.machPrescale = s.tb.machPrescale ∧
            t.tb.pendingSteps = 0
        | .run, .creep => s.Answered t p okEmpty ∧ t.tb.mode = .run ∧ t.tb.pendingSteps = 0 ∧
            t.tb.machPrescale = if s.tb.creepHolding then 0 else s.tb.machPrescale
        | .step, .hold => s.Answered t p okEmpty ∧ t.tb.mode = .step ∧ t.tb.machPrescale = 0 ∧ t.tb.pendingSteps = 1
        | .step, .run => s.Answered t p okEmpty ∧ t.tb.mode = .step ∧ t.tb.machPrescale = s.tb.machPrescale ∧
            t.tb.pendingSteps = 1
        | .step, .step =>
          if s.tb.pendingSteps < 15 then
            s.Answered t p okEmpty ∧ t.tb = { s.tb with pendingSteps := s.tb.pendingSteps + 1 }
          else s.Answered t p (refuse .badPace)
        | .step, .creep => s.Answered t p (refuse .badPace)
        | .creep, .hold => s.Answered t p okEmpty ∧ t.tb.mode = .creep ∧ t.tb.factor = factor ∧
            t.tb.pendingSteps = 0 ∧ t.tb.machPrescale = 0
        | .creep, .run => s.Answered t p okEmpty ∧ t.tb.mode = .creep ∧ t.tb.factor = factor ∧
            t.tb.pendingSteps = 0 ∧ t.tb.machPrescale = s.tb.machPrescale
        | .creep, .step => s.Answered t p (refuse .badPace)
        | .creep, .creep => s.Answered t p okEmpty ∧ t.tb = { s.tb with factor := factor })

/-- SETCLOCK and SETTIME from the coordinator (R14, R15): taken in HOLD, refused with BAD_PACE in any other mode. While a TIME_END that a
tick has brought has still to be taken, SETTIME waits and nothing happens (the model's reading, entry 28). -/
def Obligations.ClockIsSetInHold : Prop :=
  ∀ (p : Port) (s : State) (payload : List Byte) (clk : Clock), s.isCoordinator p = true →
    (∀ tdiv cycle, s.handedRequest p .setclock = some (payload, clk) → setclockArgs payload = some (tdiv, cycle) →
      ∃ t, exec (.setclock p) s = .next t ∧
        if s.tb.mode = .hold then
          s.Answered t p okEmpty ∧
            t = { s with tb := { s.tb with tdiv := tdiv, cycle := cycle }, clocks := t.clocks, ports := t.ports }
        else s.Refused t p .badPace) ∧
    (s.handedRequest p .settime = some (payload, clk) → s.tb.timeEndDue = false →
      ∃ t, exec (.settime p) s = .next t ∧
        if s.tb.mode = .hold then
          s.Answered t p okEmpty ∧
            t = { s with tb := { s.tb with machTime := fieldOf payload 0 6 }, clocks := t.clocks, ports := t.ports }
        else s.Refused t p .badPace) ∧
    (s.tb.timeEndDue = true → exec (.settime p) s = .next s)

/-- The seven requests restricted to the coordinator (R10): an argument out of range is BAD_ARG whoever sends it, and with arguments
in range a port that does not hold T is refused with NOT_HOLDER; a refusal changes nothing. -/
def Obligations.RestrictedRequestsNeedTheTimeline : Prop :=
  ∀ (p : Port) (s : State) (payload : List Byte) (clk : Clock),
    (s.handedRequest p .pace = some (payload, clk) → (paceArgs payload = none ∨ s.isCoordinator p = false) →
      ∃ t, exec (.pace p) s = .next t ∧ s.Refused t p (if paceArgs payload = none then .badArg else .notHolder)) ∧
    (s.handedRequest p .setclock = some (payload, clk) → (setclockArgs payload = none ∨ s.isCoordinator p = false) →
      ∃ t, exec (.setclock p) s = .next t ∧
        s.Refused t p (if setclockArgs payload = none then .badArg else .notHolder)) ∧
    (s.handedRequest p .settime = some (payload, clk) → s.tb.timeEndDue = false → s.isCoordinator p = false →
      ∃ t, exec (.settime p) s = .next t ∧ s.Refused t p .notHolder) ∧
    (s.handedRequest p .lineConfig = some (payload, clk) → (lineConfigArgs payload = none ∨ s.isCoordinator p = false) →
      ∃ t, exec (.lineConfig p) s = .next t ∧
        s.Refused t p (if lineConfigArgs payload = none then .badArg else .notHolder)) ∧
    (s.handedRequest p .tripConfig = some (payload, clk) → (tripConfigArgs payload = none ∨ s.isCoordinator p = false) →
      ∃ t, exec (.tripConfig p) s = .next t ∧
        s.Refused t p (if tripConfigArgs payload = none then .badArg else .notHolder)) ∧
    (s.handedRequest p .arm = some (payload, clk) → (groupArg payload = none ∨ s.isCoordinator p = false) →
      ∃ t, exec (.arm p) s = .next t ∧ s.Refused t p (if groupArg payload = none then .badArg else .notHolder)) ∧
    (s.handedRequest p .disarm = some (payload, clk) → (groupArg payload = none ∨ s.isCoordinator p = false) →
      ∃ t, exec (.disarm p) s = .next t ∧ s.Refused t p (if groupArg payload = none then .badArg else .notHolder))

/-- TIME, SCHEDULE, CHANNELS, LINES, TRIPS, IDENT and LEASES are answered OK with a snapshot of the length that the table of replies
gives, and change nothing (R16, R48, R72, R92, R108, R147, R168, R188). Read back field by field, each at its place and as far as its
width goes, the payloads give what the records hold: of the Timebase and the holder of T; of the list's occupancy, the sending port's
share and its earliest due time; of every channel, line and group; of a resource, its times held and waited given as 16,777,215 when
larger, and every claim in its queue. -/
def Obligations.SnapshotsChangeNothing : Prop :=
  (∀ (p : Port) (s : State) (payload : List Byte) (clk : Clock),
      (s.handedRequest p .time = some (payload, clk) →
        ∃ t, exec (.time p) s = .next t ∧ s.Answered t p (okWith s.timePayload) ∧
          t = { s with clocks := t.clocks, ports := t.ports } ∧ s.timePayload.length = 23) ∧
      (s.handedRequest p .schedule = some (payload, clk) → s.scheduleBusy = false →
        ∃ t, exec (.schedule p) s = .next t ∧ s.Answered t p (okWith (s.schedulePayload p)) ∧
          t = { s with clocks := t.clocks, ports := t.ports } ∧ (s.schedulePayload p).length = 11) ∧
      (s.handedRequest p .channels = some (payload, clk) →
        ∃ t, exec (.channels p) s = .next t ∧ s.Answered t p (okWith s.channelsPayload) ∧
          t = { s with clocks := t.clocks, ports := t.ports } ∧ s.channelsPayload.length = 96) ∧
      (s.handedRequest p .lines = some (payload, clk) →
        ∃ t, exec (.lines p) s = .next t ∧ s.Answered t p (okWith s.linesPayload) ∧
          t = { s with clocks := t.clocks, ports := t.ports } ∧ s.linesPayload.length = 60) ∧
      (s.handedRequest p .trips = some (payload, clk) →
        ∃ t, exec (.trips p) s = .next t ∧ s.Answered t p (okWith s.tripsPayload) ∧
          t = { s with clocks := t.clocks, ports := t.ports } ∧ s.tripsPayload.length = 52) ∧
      (s.handedRequest p .ident = some (payload, clk) →
        ∃ t, exec (.ident p) s = .next t ∧
          s.Answered t p (okWith [0x46, 0x16, 0x12, 3, 4, 16, 12, 4, 192, 64, 0x02, 0x00]) ∧
          t = { s with clocks := t.clocks, ports := t.ports }) ∧
      (∀ r, s.handedRequest p .leases = some (payload, clk) → resourceArg payload = some r →
        ∃ t, exec (.leases p) s = .next t ∧ s.Answered t p (okWith (s.leasesPayload r)) ∧
          t = { s with clocks := t.clocks, ports := t.ports } ∧
          (s.leasesPayload r).length = 15 + 10 * (s.lease r).queue.length) ∧
      (s.handedRequest p .leases = some (payload, clk) → resourceArg payload = none →
        ∃ t, exec (.leases p) s = .next t ∧ s.Refused t p .badArg)) ∧
  (∀ s : State, s.tb.Ok →
      fieldOf s.timePayload 0 6 = s.tb.machTime ∧ fieldOf s.timePayload 6 6 = s.tb.wallTime ∧
      fieldOf s.timePayload 12 1 = s.tb.mode.code ∧ fieldOf s.timePayload 13 1 = (if s.tb.running then 1 else 0) ∧
      fieldOf s.timePayload 14 1 = s.tb.pendingSteps ∧ fieldOf s.timePayload 15 2 = s.tb.tdiv ∧
      fieldOf s.timePayload 17 4 = s.tb.cycle ∧ fieldOf s.timePayload 21 1 = s.tb.factor ∧
      fieldOf s.timePayload 22 1 = (match s.holder timeline with
        | some p => p.val
        | none => 255)) ∧
  (∀ (s : State) (p : Port), s.sched.Ok →
      let x := s.schedulePayload p
      fieldOf x 0 1 = s.sched.entries.length ∧ fieldOf x 1 1 = (s.sched.ownedBy p).length ∧
      fieldOf x 2 1 = 192 - s.sched.entries.length ∧ fieldOf x 3 1 = 64 - (s.sched.ownedBy p).length ∧
      (s.sched.ownedBy p = [] → fieldOf x 4 1 = 0 ∧ fieldOf x 5 6 = 0) ∧
      (s.sched.ownedBy p ≠ [] → fieldOf x 4 1 = 1 ∧ (∃ e ∈ s.sched.ownedBy p, fieldOf x 5 6 = e.due) ∧
        ∀ e ∈ s.sched.ownedBy p, fieldOf x 5 6 ≤ e.due)) ∧
  (∀ (s : State) (c : Chan),
      let x := s.chan c
      let at_ := 6 * c.val
      fieldOf s.channelsPayload at_ 1 = (if x.level then 1 else 0) + (if x.safe then 2 else 0) +
        (if x.policy = .safe then 4 else 0) + 8 * (if x.lockSet ≠ 0 then 3 else match x.wave.map Wave.kind with
          | none => 0
          | some .pulse => 1
          | some (.train _ _ _ _) => 2) ∧
      fieldOf s.channelsPayload (at_ + 1) 1 = x.lockSet.toNat + 16 * (match s.chanHolder c with
        | some p => p.val
        | none => 15) ∧
      fieldOf s.channelsPayload (at_ + 2) 2 = (match x.wave with
        | none => 0
        | some w => w.tag % 2 ^ 16) ∧
      fieldOf s.channelsPayload (at_ + 4) 2 = (match x.wave.map Wave.kind with
        | some (.train _ _ _ done) => done % 2 ^ 16
        | _ => 0)) ∧
  (∀ (s : State) (i : LineId), (s.line i).Ok →
      let x := s.line i
      let at_ := 5 * i.val
      fieldOf s.linesPayload at_ 1 = (if x.raw then 1 else 0) + (if x.qualified then 2 else 0) +
        4 * (match x.mode with
          | .off => 0
          | .rise => 1
          | .fall => 2
          | .both => 3) + 16 * x.d ∧
      fieldOf s.linesPayload (at_ + 1) 1 = x.q ∧ fieldOf s.linesPayload (at_ + 2) 2 = x.stable ∧
      fieldOf s.linesPayload (at_ + 4) 1 = x.decim) ∧
  (∀ (s : State) (g : GroupId), s.GroupOk g →
      let x := s.group g
      let at_ := 13 * g.val
      fieldOf s.tripsPayload at_ 1 = (match x.state with
          | .disarmed => 0
          | .armed => 1
          | .tripped => 2) + (if x.active then 4 else 0) + (if x.last.isSome then 8 else 0) ∧
      fieldOf s.tripsPayload (at_ + 1) 2 = x.sources.toNat ∧ fieldOf s.tripsPayload (at_ + 3) 2 = x.channels.toNat ∧
      fieldOf s.tripsPayload (at_ + 5) 1 = (match x.last with
        | some (i, _) => i.val
        | none => 0) ∧
      fieldOf s.tripsPayload (at_ + 6) 6 = (match x.last with
        | some (_, time) => time % 2 ^ 48
        | none => 0) ∧
      fieldOf s.tripsPayload (at_ + 12) 1 = x.locksOut) ∧
  (∀ (s : State) (r : ResId), s.LeasesOk →
      let x := s.lease r
      let y := s.leasesPayload r
      (x.holder = none → fieldOf y 0 1 = 255 ∧ fieldOf y 1 6 = 0 ∧ fieldOf y 7 3 = 0 ∧ fieldOf y 10 3 = 0) ∧
      (∀ p, x.holder = some p → fieldOf y 0 1 = p.val ∧ fieldOf y 1 6 = x.grantWall % 2 ^ 48 ∧
        fieldOf y 7 3 = min (s.wallSince x.grantWall) 16777215 ∧ fieldOf y 10 3 = x.holdLimit % 2 ^ 24) ∧
      fieldOf y 13 1 = (match x.ending.map Ending.cause with
        | none => 0
        | some .release => 1
        | some .revoke => 2
        | some .teardown => 3) ∧
      fieldOf y 14 1 = x.queue.length ∧
      ∀ k claim, x.queue[k]? = some claim →
        fieldOf y (15 + 10 * k) 1 = claim.port.val ∧ fieldOf y (16 + 10 * k) 3 = claim.hold % 2 ^ 24 ∧
        fieldOf y (19 + 10 * k) 3 = claim.wait % 2 ^ 24 ∧
        fieldOf y (22 + 10 * k) 3 = min (s.wallSince claim.since) 16777215)

/-! ### The action schedule -/

/-- A SUBMIT payload asks for the entry it spells, with every field at every value it may have, and asks for none when one of the options
bits 4 to 7 is set, the kind is unknown or a field of the kind, of the repeat part or of the guard part is out of range, and in no other
case (R24, R187). A field is a number, most significant byte first, and the arguments of every other request are accepted exactly when
each field, at its place, has a value in its range (R11, R14, R15, R41, R42, R67, R76, R80, R105, R116, R125, R136, R137, R161, R178,
R186). -/
def Obligations.SubmitPayloadReadsBack : Prop :=
  (∀ (p : Port) (e : Entry), e.Askable →
    lengthOk .submit e.submitPayload = true ∧
    submitEntry p e.submitPayload = some { e with tag := 0, owner := p, seq := 0 }) ∧
  (∀ (p : Port) (x : List Byte),
    let hasRepeat := (fieldOf x 1 1).testBit 2;
    let hasGuard := (fieldOf x 1 1).testBit 3;
    let repeatAt := 8 + (match fieldOf x 0 1 with
      | 0 => 2
      | 1 => 4
      | 2 => 9
      | 3 => 4
      | _ => 0);
    let guardAt := repeatAt + if hasRepeat then 6 else 0;
    submitEntry p x = none ↔
      16 ≤ fieldOf x 1 1 ∨
      (match fieldOf x 0 1 with
        | 0 => 16 ≤ fieldOf x 8 1 ∨ 2 ≤ fieldOf x 9 1
        | 1 => 16 ≤ fieldOf x 8 1 ∨ fieldOf x 9 3 = 0
        | 2 => 16 ≤ fieldOf x 8 1 ∨ fieldOf x 9 3 < 2 ∨ fieldOf x 12 3 = 0 ∨ fieldOf x 9 3 ≤ fieldOf x 12 3
        | 3 => fieldOf x 8 2 = 0
        | 4 => False
        | _ => True) ∨
      (hasRepeat = true ∧ fieldOf x repeatAt 4 = 0) ∨
      (hasGuard = true ∧ (12 ≤ fieldOf x guardAt 1 ∨ 2 ≤ fieldOf x (guardAt + 1) 1))) ∧
  (∀ (x : List Byte) (place len : Nat) (b : Byte), fieldOf x place 0 = 0 ∧
    (x[place + len]? = some b → fieldOf x place (len + 1) = fieldOf x place len * 256 + b.toNat)) ∧
  (∀ (x : List Byte) (mode : PaceMode) (factor : Nat), paceArgs x = some (mode, factor) ↔
    fieldOf x 0 1 = (match mode with
      | .hold => 0
      | .run => 1
      | .step => 2
      | .creep => 3) ∧ fieldOf x 1 1 = factor ∧ (mode = .creep → 2 ≤ factor ∧ factor ≤ 16)) ∧
  (∀ (x : List Byte) (tdiv cycle : Nat), setclockArgs x = some (tdiv, cycle) ↔
    fieldOf x 0 2 = tdiv ∧ fieldOf x 2 4 = cycle ∧ 1 ≤ tdiv ∧ tdiv ≤ 256 ∧ 16 ≤ cycle ∧ cycle ≤ 16777216) ∧
  (∀ (x : List Byte) (r : ResId) (hold wait : Nat), claimArgs x = some (r, hold, wait) ↔
    fieldOf x 0 1 = r.val ∧ fieldOf x 1 3 = hold ∧ fieldOf x 4 3 = wait) ∧
  (∀ (x : List Byte) (r : ResId), resourceArg x = some r ↔ fieldOf x 0 1 = r.val) ∧
  (∀ (x : List Byte) (c : Chan) (safe : Level) (policy : ReleasePolicy), channelConfigArgs x = some (c, safe, policy) ↔
    fieldOf x 0 1 = c.val ∧ fieldOf x 1 1 = (if safe then 1 else 0) ∧ fieldOf x 2 1 = (match policy with
      | .keep => 0
      | .safe => 1)) ∧
  (∀ (x : List Byte) (i : LineId) (mode : EdgeMode) (q d : Nat), lineConfigArgs x = some (i, mode, q, d) ↔
    fieldOf x 0 1 = i.val ∧ fieldOf x 1 1 = (match mode with
      | .off => 0
      | .rise => 1
      | .fall => 2
      | .both => 3) ∧ fieldOf x 2 1 = q ∧ fieldOf x 3 1 = d ∧ d ≤ 7) ∧
  (∀ (x : List Byte) (g : GroupId) (sources : LineSet) (active : Level) (channels : ChanSet),
    tripConfigArgs x = some (g, sources, active, channels) ↔
      fieldOf x 0 1 = g.val ∧ fieldOf x 1 2 = sources.toNat ∧ fieldOf x 3 1 = (if active then 1 else 0) ∧
      fieldOf x 4 2 = channels.toNat) ∧
  (∀ (x : List Byte) (g : GroupId), groupArg x = some g ↔ fieldOf x 0 1 = g.val) ∧
  (∀ (x : List Byte) (mask : KindMask) (mode : SubMode) (oldest : Bool), subscribeArgs x = some (mask, mode, oldest) ↔
    fieldOf x 0 2 = mask.toNat ∧ mask ≠ 0 ∧ fieldOf x 2 1 = (match mode with
      | .keep => 0
      | .skim => 1) ∧ fieldOf x 3 1 = (if oldest then 1 else 0)) ∧
  (∀ (x : List Byte) (n : Nat), readArg x = some n ↔ fieldOf x 0 1 = n ∧ 1 ≤ n ∧ n ≤ 3) ∧
  (∀ (x : List Byte) (n : Nat), noticesArg x = some n ↔ fieldOf x 0 1 = n ∧ 1 ≤ n ∧ n ≤ 4) ∧
  (∀ (x : List Byte) (term : Nat), attachTerm x = some term ↔ fieldOf x 0 3 = term ∧ 64 ≤ term) ∧
  (∀ x : List Byte, settimeArg x = fieldOf x 0 6 ∧ tagArg x = fieldOf x 0 2 ∧
    (cancelChannelArg x = some none ↔ fieldOf x 0 1 = 255) ∧
    ∀ c : Chan, cancelChannelArg x = some (some c) ↔ fieldOf x 0 1 = c.val)

/-- SUBMIT that passes the six checks (R28): the entry joins the list with the tag chosen, the sending port as owner and the next
insertion sequence; the owner's count goes up by 1; the reply carries the tag. -/
def Obligations.SubmitAccepts : Prop :=
  ∀ (p : Port) (s : State) (payload : List Byte) (clk : Clock) (e : Entry),
    s.handedRequest p .submit = some (payload, clk) → s.scheduleBusy = false → submitEntry p payload = some e →
    (∀ c, e.namesChan c = true → s.chanHolder c = some p ∧ (s.chan c).lockSet = 0) →
    (s.tb.machTime < e.due ∨ e.late = .fire) → s.sched.counts[p] < 64 → s.sched.entries.length < 192 →
    ∃ t, exec (.submit p) s = .next t ∧ s.Answered t p (okWith (bytesOf 2 s.sched.chooseTag)) ∧
      t = { s with sched := t.sched, clocks := t.clocks, ports := t.ports } ∧
      t.sched.entries = insertEntry { e with tag := s.sched.chooseTag, owner := p, seq := s.sched.insertions } s.sched.entries ∧
      t.sched.tagCounter = (if 65535 ≤ s.sched.chooseTag then 1 else s.sched.chooseTag + 1) ∧
      t.sched.insertions = s.sched.insertions + 1 ∧
      (∀ q : Port, t.sched.counts[q] = s.sched.counts[q] + (if q = p then 1 else 0)) ∧
      t.sched.tick = s.sched.tick ∧ t.sched.work = s.sched.work

/-- SUBMIT's checks in their order (R24 to R27, the table of 2.2): the reply of the first that fails, and nothing changes. The fourth
check compares with machine time as the Timebase holds it, also between the Timebase's tick to t and the schedule's taking of it, where a
REJECT of due time t gets LATE (the model's choice, entry 29). An entry names the channel of its SET, PULSE or TRAIN, each channel of its
GROUP_SET's mask, and none for a MARK (R20). -/
def Obligations.SubmitRefusesInOrder : Prop :=
  (∀ (p : Port) (s : State) (payload : List Byte) (clk : Clock),
    s.handedRequest p .submit = some (payload, clk) → s.scheduleBusy = false →
    (submitEntry p payload = none → ∃ t, exec (.submit p) s = .next t ∧ s.Refused t p .badArg) ∧
    (∀ e, submitEntry p payload = some e →
      ((∃ c, e.namesChan c = true ∧ s.chanHolder c ≠ some p) →
        ∃ t, exec (.submit p) s = .next t ∧ s.Refused t p .notHolder) ∧
      ((∀ c, e.namesChan c = true → s.chanHolder c = some p) →
        ((∃ c, e.namesChan c = true ∧ (s.chan c).lockSet ≠ 0) →
          ∃ t, exec (.submit p) s = .next t ∧ s.Refused t p .locked) ∧
        ((∀ c, e.namesChan c = true → (s.chan c).lockSet = 0) →
          (e.due ≤ s.tb.machTime ∧ e.late = .reject → ∃ t, exec (.submit p) s = .next t ∧ s.Refused t p .late) ∧
          (s.tb.machTime < e.due ∨ e.late = .fire →
            (64 ≤ s.sched.counts[p] → ∃ t, exec (.submit p) s = .next t ∧ s.Refused t p .quota) ∧
            (s.sched.counts[p] < 64 → 192 ≤ s.sched.entries.length →
              ∃ t, exec (.submit p) s = .next t ∧ s.Refused t p .schedFull)))))) ∧
  (∀ (e : Entry) (c : Chan), e.namesChan c = true ↔ (match e.action with
    | .set d _ => d = c
    | .pulse d _ => d = c
    | .train d _ _ _ => d = c
    | .groupSet mask _ => mask.getLsbD c.val = true
    | .mark => False)) ∧
  (∀ (e : Entry) (channels : ChanSet), e.namesAny channels = true ↔
    ∃ c : Chan, e.namesChan c = true ∧ channels.getLsbD c.val = true)

/-- An entry put in the list keeps the list's order and adds that entry alone (R21). The entries a machine tick takes (R30): from the
head, all due, at most 8, and all that are due when fewer than 8 are taken. -/
def Obligations.ListOrderDecidesWhatATickTakes : Prop :=
  (∀ (e : Entry) (l : List Entry), l.Pairwise Entry.before → (∀ x ∈ l, x.seq < e.seq) →
      (insertEntry e l).Pairwise Entry.before ∧ (insertEntry e l).Perm (e :: l) ∧
      l.Sublist (insertEntry e l)) ∧
  (∀ (sc : Schedule) (t : Nat), sc.Ok →
      sc.dueAt t <+: sc.entries ∧ (sc.dueAt t).length ≤ 8 ∧ (∀ e ∈ sc.dueAt t, e.due ≤ t) ∧
      ((sc.dueAt t).length < 8 → ∀ e ∈ sc.entries, e.due ≤ t → e ∈ sc.dueAt t))

/-- The tag chosen is the first one, counting up from the tag counter and on at 1 after 65535, that no entry holds (R23). -/
def Obligations.TagIsFirstFree : Prop :=
  ∀ sc : Schedule, sc.Ok →
    1 ≤ sc.chooseTag ∧ sc.chooseTag ≤ 65535 ∧ (∀ e ∈ sc.entries, e.tag ≠ sc.chooseTag) ∧
    ∃ k, sc.chooseTag = Nat.repeat nextTag k sc.tagCounter ∧
      ∀ j, j < k → ∃ e ∈ sc.entries, e.tag = Nat.repeat nextTag j sc.tagCounter

/-- CANCEL and QUERY (R41, R47): NO_TAG, NOT_OWNER, or the owner's entry removed or reported. CANCEL_CHANNEL (R42): BAD_ARG, or the
sending port's entries that name the channel, or all of them, leave, and the reply carries how many. -/
def Obligations.OwnersCancelAndQueryTheirEntries : Prop :=
  (∀ (p : Port) (s : State) (payload : List Byte) (clk : Clock), s.scheduleBusy = false →
      (s.handedRequest p .cancel = some (payload, clk) →
        ((∀ e ∈ s.sched.entries, e.tag ≠ fieldOf payload 0 2) →
          ∃ t, exec (.cancel p) s = .next t ∧ s.Refused t p .noTag) ∧
        (∀ e, s.sched.find (fieldOf payload 0 2) = some e →
          (e.owner ≠ p → ∃ t, exec (.cancel p) s = .next t ∧ s.Refused t p .notOwner) ∧
          (e.owner = p → ∃ t, exec (.cancel p) s = .next t ∧ s.Answered t p okEmpty ∧
            t = { s with sched := t.sched, clocks := t.clocks, ports := t.ports } ∧
            t.sched = { s.sched with entries := s.sched.entries.filter fun x => x.tag != e.tag, counts := t.sched.counts }))) ∧
      (s.handedRequest p .query = some (payload, clk) →
        ((∀ e ∈ s.sched.entries, e.tag ≠ fieldOf payload 0 2) →
          ∃ t, exec (.query p) s = .next t ∧ s.Refused t p .noTag) ∧
        (∀ e, s.sched.find (fieldOf payload 0 2) = some e →
          (e.owner ≠ p → ∃ t, exec (.query p) s = .next t ∧ s.Refused t p .notOwner) ∧
          (e.owner = p → ∃ t, exec (.query p) s = .next t ∧ s.Answered t p (okWith (s.queryPayload e)) ∧
            t = { s with clocks := t.clocks, ports := t.ports } ∧ (s.queryPayload e).length = 11 ∧
            fieldOf (s.queryPayload e) 0 1 = (match e.action with
              | .set _ _ => 0
              | .pulse _ _ => 1
              | .train _ _ _ _ => 2
              | .groupSet _ _ => 3
              | .mark => 4) ∧
            (e.due < 2 ^ 48 → fieldOf (s.queryPayload e) 1 6 = e.due) ∧
            fieldOf (s.queryPayload e) 7 1 = (match e.rep.map Repetition.remaining with
              | none => 0
              | some (some _) => 1
              | some none => 2) ∧
            fieldOf (s.queryPayload e) 8 2 = (match e.rep.bind Repetition.remaining with
              | none => 0
              | some n => n % 2 ^ 16) ∧
            fieldOf (s.queryPayload e) 10 1 = (if e.due ≤ s.tb.machTime then 1 else 0))))) ∧
  (∀ (p : Port) (s : State) (payload : List Byte) (clk : Clock), s.handedRequest p .cancelChannel = some (payload, clk) →
      s.scheduleBusy = false →
      (16 ≤ fieldOf payload 0 1 → fieldOf payload 0 1 ≠ 255 →
        ∃ t, exec (.cancelChannel p) s = .next t ∧ s.Refused t p .badArg) ∧
      (∀ c : Chan, fieldOf payload 0 1 = c.val →
        ∃ t, exec (.cancelChannel p) s = .next t ∧
          s.Answered t p (okWith (bytesOf 1 (s.sched.entries.filter fun e => e.owner == p && e.namesChan c).length)) ∧
          t = { s with sched := t.sched, clocks := t.clocks, ports := t.ports } ∧
          t.sched = { s.sched with
            entries := s.sched.entries.filter fun e => !(e.owner == p && e.namesChan c), counts := t.sched.counts }) ∧
      (fieldOf payload 0 1 = 255 →
        ∃ t, exec (.cancelChannel p) s = .next t ∧ s.Answered t p (okWith (bytesOf 1 (s.sched.ownedBy p).length)) ∧
          t = { s with sched := t.sched, clocks := t.clocks, ports := t.ports } ∧
          t.sched = { s.sched with entries := s.sched.entries.filter fun e => !(e.owner == p), counts := t.sched.counts }))

/-- SCHEDULE_TICK (R30, R33 to R37; entries 8, 12). The entries of a tick are those due by its own machine time, also when a SETTIME has
moved machine time since the Timebase's tick (the model's choice, entry 33). When a tick has been offered and nothing is due, the tick is
over; otherwise the first entry due is taken, and it is skipped, or its mark is taken, or its action is handed to the channels, the others
to follow. With a tick in hand the first entry left of it is taken in the same way. When none is left the tick is done and its marks are
offered to the journal (entry 12). While an action handed to the channels awaits their answer nothing is taken. A command that takes up to
n + 1 entries does what one that takes 1 does, and then, with the tick still in hand, what one that takes up to n does. -/
def Obligations.ScheduleTickTakesFirstDue : Prop :=
  (∀ (s : State) (k : Tick), s.sched.work = none → s.sched.tick = some k →
      (s.sched.dueAt k.time = [] → ∀ slice,
        ∃ t, exec (.scheduleTick slice) s = .next t ∧
          t = { s with sched := { s.sched with tick := none }, clocks := t.clocks }) ∧
      (∀ e rest, s.sched.dueAt k.time = e :: rest →
        ∃ t, exec (.scheduleTick 1) s = .next t ∧ s.TakesEntry t k.time k.ordinal [] e rest ∧ t.sched.tick = none)) ∧
  (∀ (s : State) (w : Work) (e : Entry) (rest : List Entry), s.sched.work = some w → w.handed = none → w.rest = e :: rest →
      ∃ t, exec (.scheduleTick 1) s = .next t ∧ s.TakesEntry t w.time w.ordinal w.marks e rest ∧ t.sched.tick = s.sched.tick) ∧
  (∀ (s : State) (w : Work) (slice : Nat), s.sched.work = some w → w.handed.isSome →
      exec (.scheduleTick slice) s = .next s) ∧
  (∀ (s t : State) (n : Nat), exec (.scheduleTick 1) s = .next t →
      exec (.scheduleTick (n + 1)) s = if t.sched.work = none then .next t else exec (.scheduleTick n) t)

/-- The repeat of a taken entry (R37, R38): without a use left, or with a next due time past 2^48 - 1, the entry leaves; otherwise it
is in the list once more at its old due time plus the interval, with one use less and a fresh insertion sequence. APPLICATION deals so
with the repeat of the entry whose action it takes, be it a SET, a PULSE, a TRAIN or a GROUP_SET, applied or refused (R37; in the same
command, the model's reading, entry 8), and the tick goes on, or is done when no entry is left of it. -/
def Obligations.RepeatIsReinserted : Prop :=
  (∀ (sc : Schedule) (e : Entry), sc.Ok → e ∈ sc.entries →
    ((∀ r, e.rep = some r → r.remaining = some 0 ∨ 2 ^ 48 - 1 < e.due + r.interval) →
      (sc.settleRepeat e).entries = sc.entries.filter (fun x => x.tag != e.tag) ∧
      (sc.settleRepeat e).counts[e.owner] + 1 = sc.counts[e.owner]) ∧
    (∀ r, e.rep = some r → r.remaining ≠ some 0 → e.due + r.interval ≤ 2 ^ 48 - 1 →
      (sc.settleRepeat e).entries.Perm
        ({ e with
            due := e.due + r.interval, rep := some { r with remaining := r.remaining.map (· - 1) }, seq := sc.insertions } ::
          sc.entries.filter (fun x => x.tag != e.tag)) ∧
      (sc.settleRepeat e).counts = sc.counts ∧ (sc.settleRepeat e).insertions = sc.insertions + 1)) ∧
  (∀ (s : State) (w : Work) (e : Entry), s.sched.work = some w → w.handed = some e →
    ∃ t, exec .application s = .next t ∧
      t = { s with sched := t.sched, chans := t.chans, clocks := t.clocks, posts := t.posts, offers := t.offers } ∧
      t.sched = { s.sched.settleRepeat e with tick := s.sched.tick, work := t.sched.work } ∧
      s.TickGoesOn t w.time w.ordinal w.marks w.rest)

/-! ### Output channels -/

/-- APPLICATION refused (R53): TRIP when a named channel is locked, else LEASE when one is not leased to the owner; no channel
changes, and the schedule posts DROPPED with the reason (R34). APPLICATION itself deals with the entry's repeat (R37; the model's
reading, entry 8), and the tick goes on, or is done when no entry is left of it. -/
def Obligations.ApplicationRefusedChangesNoChannel : Prop :=
  ∀ (s : State) (w : Work) (e : Entry), s.sched.work = some w → w.handed = some e →
    (∃ c, e.namesChan c = true ∧ ((s.chan c).lockSet ≠ 0 ∨ s.chanHolder c ≠ some e.owner)) →
    ∃ t, exec .application s = .next t ∧
      t = { s with sched := t.sched, clocks := t.clocks, posts := t.posts, offers := t.offers } ∧
      t.sched = { s.sched.settleRepeat e with tick := s.sched.tick, work := t.sched.work } ∧
      s.TickGoesOn t w.time w.ordinal w.marks w.rest ∧
      ((∃ c, e.namesChan c = true ∧ (s.chan c).lockSet ≠ 0) →
        s.Posted t [(.schedule, e.owner, ⟨.dropped, e.tag, 2, w.time⟩)]) ∧
      ((∀ c, e.namesChan c = true → (s.chan c).lockSet = 0) →
        s.Posted t [(.schedule, e.owner, ⟨.dropped, e.tag, 1, w.time⟩)])

/-- APPLICATION of a SET, a PULSE and a TRAIN on a channel leased to the owner and not locked (R54 to R57): the channel's new record,
SUPERSEDED for a waveform displaced, then the entry's outcome. APPLICATION itself deals with the entry's repeat (R37; the model's
reading, entry 8), and the tick goes on, or is done when no entry is left of it. -/
def Obligations.ApplicationDrivesItsChannel : Prop :=
  ∀ (s : State) (w : Work) (e : Entry) (c : Chan), s.sched.work = some w → w.handed = some e →
    (s.chan c).lockSet = 0 → s.chanHolder c = some e.owner →
    let rest : Level := match (s.chan c).wave with
      | some v => v.rest
      | none => (s.chan c).level
    let done : State → Channel → Prop := fun t x =>
      t = { s with sched := t.sched, chans := t.chans, clocks := t.clocks, posts := t.posts, offers := t.offers } ∧
      t.sched = { s.sched.settleRepeat e with tick := s.sched.tick, work := t.sched.work } ∧
      s.TickGoesOn t w.time w.ordinal w.marks w.rest ∧ t.chan c = x ∧ (∀ d, d ≠ c → t.chan d = s.chan d) ∧
      s.Posted t (supersededPosts (s.chan c) e.tag s.tb.machTime ++ firedPosts w.time e)
    (∀ level, e.action = .set c level →
      ∃ t, exec .application s = .next t ∧ done t { s.chan c with level := level, wave := none }) ∧
    (∀ width, e.action = .pulse c width →
      ∃ t, exec .application s = .next t ∧ done t { s.chan c with
        level := !rest, wave := some ⟨e.tag, e.owner, e.notify, .pulse, rest, true, width, w.ordinal⟩ }) ∧
    (∀ period onTime pulses, e.action = .train c period onTime pulses →
      ∃ t, exec .application s = .next t ∧ done t { s.chan c with
        level := !rest
        wave := some ⟨e.tag, e.owner, e.notify, .train onTime period pulses 0, rest, true, onTime, w.ordinal⟩ })

/-- APPLICATION of a GROUP_SET (R58). With every masked channel leased to the owner and not locked, each masked channel takes its own
level and loses its waveform, no other channel changes, and the SUPERSEDED notices come in ascending channel order before the entry's
outcome. One masked channel locked refuses it whole with TRIP; else one not leased to the owner refuses it whole with LEASE. What becomes
of the entry's repeat stands in RepeatIsReinserted. -/
def Obligations.GroupSetSetsEveryMaskedChannel : Prop :=
  ∀ (s : State) (w : Work) (e : Entry) (mask values : ChanSet), s.sched.work = some w → w.handed = some e →
    e.action = .groupSet mask values →
    ((∀ c : Chan, mask.getLsbD c.val = true → (s.chan c).lockSet = 0 ∧ s.chanHolder c = some e.owner) →
      ∃ t, exec .application s = .next t ∧
        t = { s with sched := t.sched, chans := t.chans, clocks := t.clocks, posts := t.posts, offers := t.offers } ∧
        (∀ c : Chan, t.chan c = if mask.getLsbD c.val then { s.chan c with level := values.getLsbD c.val, wave := none }
          else s.chan c) ∧
        s.Posted t (((List.finRange 16).filter fun c => mask.getLsbD c.val).flatMap
          (fun c => supersededPosts (s.chan c) e.tag s.tb.machTime) ++ firedPosts w.time e)) ∧
    ((∃ c : Chan, mask.getLsbD c.val = true ∧ (s.chan c).lockSet ≠ 0) →
      ∃ t, exec .application s = .next t ∧ t.chans = s.chans ∧
        s.Posted t [(.schedule, e.owner, ⟨.dropped, e.tag, 2, w.time⟩)]) ∧
    ((∀ c : Chan, mask.getLsbD c.val = true → (s.chan c).lockSet = 0) →
      (∃ c : Chan, mask.getLsbD c.val = true ∧ s.chanHolder c ≠ some e.owner) →
      ∃ t, exec .application s = .next t ∧ t.chans = s.chans ∧
        s.Posted t [(.schedule, e.owner, ⟨.dropped, e.tag, 1, w.time⟩)])

/-- CHANNEL_TICK (R60): the waveform counts the tick unless it is the one at which it was applied. PULSE_END (R61): the level returns to
rest, the waveform is gone, and WAVE_DONE goes to the owner if its notify was set. TRAIN_EDGE (R62): by the phase that ends and the
pulses ordered and done. The count of the last tick and the edge it brings are two commands, with 0 ticks left between them (the
model's choice, entry 10). -/
def Obligations.WaveformsCountAndTakeEdges : Prop :=
  (∀ (s : State) (c : Chan) (k : Tick), (s.chan c).tick = some k → (s.chan c).edgeDue = false →
      ∃ t, exec (.channelTick c) s = .next t ∧ t = { s with chans := t.chans, clocks := t.clocks } ∧
        (∀ d, d ≠ c → t.chan d = s.chan d) ∧
        t.chan c = { s.chan c with
          tick := none
          wave := (s.chan c).wave.map fun w => if w.start = k.ordinal then w else { w with ticksLeft := w.ticksLeft - 1 } }) ∧
  (∀ (s : State) (c : Chan) (w : Wave), (s.chan c).wave = some w → w.kind = .pulse → w.ticksLeft = 0 →
      ∃ t, exec (.pulseEnd c) s = .next t ∧ t = { s with chans := t.chans, clocks := t.clocks, posts := t.posts } ∧
        t.chan c = { s.chan c with level := w.rest, wave := none } ∧ (∀ d, d ≠ c → t.chan d = s.chan d) ∧
        s.Posted t (if w.notify then [(.channels, w.owner, ⟨.waveDone, w.tag, 0, s.tb.machTime⟩)] else [])) ∧
  (∀ (s : State) (c : Chan) (w : Wave) (onTime period ordered done : Nat), (s.chan c).wave = some w →
      w.kind = .train onTime period ordered done → w.ticksLeft = 0 →
      ∃ t, exec (.trainEdge c) s = .next t ∧ t = { s with chans := t.chans, clocks := t.clocks, posts := t.posts } ∧
        (∀ d, d ≠ c → t.chan d = s.chan d) ∧
        (w.active = true → ordered = 0 ∨ done + 1 < ordered →
          t.chan c = { s.chan c with level := w.rest, wave := some { w with
            active := false, ticksLeft := period - onTime, kind := .train onTime period ordered (min (done + 1) 65535) } } ∧
          s.Posted t []) ∧
        (w.active = true → ordered ≤ 65535 → done + 1 = ordered →
          t.chan c = { s.chan c with level := w.rest, wave := none } ∧
          s.Posted t (if w.notify then [(.channels, w.owner, ⟨.waveDone, w.tag, ordered, s.tb.machTime⟩)] else [])) ∧
        (w.active = false →
          t.chan c = { s.chan c with level := !w.rest, wave := some { w with active := true, ticksLeft := onTime } } ∧
          s.Posted t []))

/-- LEASE_END_SHARE (R64): on a channel that is not LOCKED the waveform ends at rest and then the release policy applies; a LOCKED
channel does not change; the share is reported to the Lease Table. -/
def Obligations.LeaseEndShareAppliesPolicy : Prop :=
  ∀ (s : State) (c : Chan) (cause : EndCause) (old : Port) (clk : Clock),
    (s.lease (resOf c)).ending = some ⟨cause, old, .shareHanded, clk⟩ →
    ∃ t, exec (.leaseEndShare c) s = .next t ∧ t = { s with chans := t.chans, leases := t.leases, clocks := t.clocks } ∧
      (∀ d, d ≠ c → t.chan d = s.chan d) ∧ (∀ r, r ≠ resOf c → t.lease r = s.lease r) ∧
      (∃ clk', t.lease (resOf c) = { s.lease (resOf c) with ending := some ⟨cause, old, .shareReported, clk'⟩ }) ∧
      t.chan c =
        if (s.chan c).lockSet ≠ 0 then s.chan c
        else { s.chan c with
          wave := none
          level := match (s.chan c).policy, (s.chan c).wave with
            | .safe, _ => (s.chan c).safe
            | .keep, some w => w.rest
            | .keep, none => (s.chan c).level }

/-- LOCK and UNLOCK (R69, R70): the oldest hand-over of the group to the channel is taken. The first lock ends the waveform and drives
the safe level; an unlock that empties the lock set posts UNLOCKED to the holder. -/
def Obligations.LockAndUnlockChangeTheLockSet : Prop :=
  ∀ (s : State) (c : Chan) (g : GroupId) (m : LockMsg), s.nextLockMsg c g = some m →
    (m.lock = true →
      ∃ t, exec (.lock c g) s = .next t ∧
        t = { s with chans := t.chans, groups := t.groups, lockMsgs := s.lockMsgs.erase m, clocks := t.clocks } ∧
        (∀ d, d ≠ c → t.chan d = s.chan d) ∧
        t.chan c = (if (s.chan c).lockSet = 0 then
            { s.chan c with lockSet := BitVec.ofNat 4 (2 ^ g.val), wave := none, level := (s.chan c).safe }
          else { s.chan c with lockSet := (s.chan c).lockSet ||| BitVec.ofNat 4 (2 ^ g.val) }) ∧
        (∀ g', g' ≠ g → t.group g' = s.group g') ∧
        ∃ k, t.group g = { s.group g with reports := (s.group g).reports ++ [k] }) ∧
    (m.lock = false →
      ∃ t, exec (.unlock c g) s = .next t ∧
        t = { s with chans := t.chans, lockMsgs := s.lockMsgs.erase m, clocks := t.clocks, posts := t.posts } ∧
        (∀ d, d ≠ c → t.chan d = s.chan d) ∧
        t.chan c = { s.chan c with lockSet := (s.chan c).lockSet &&& ~~~ BitVec.ofNat 4 (2 ^ g.val) } ∧
        s.Posted t (match s.chanHolder c with
          | some p =>
            if (s.chan c).lockSet ≠ 0 ∧ (t.chan c).lockSet = 0 then
              [(.channels, p, ⟨.unlocked, c.val, if (s.chan c).level then 1 else 0, s.tb.machTime⟩)]
            else []
          | none => []))

/-- CHANNEL_CONFIG (R67): BAD_ARG, NOT_HOLDER and LOCKED in this order; accepted, it sets the safe level and the policy together and does
not move the level. LINE_CONFIG from the coordinator (R105): edge mode, q and d take the new values, both counts return to 0, and the
levels stay. -/
def Obligations.ConfigurationRequestsSetTheirFields : Prop :=
  (∀ (p : Port) (s : State) (payload : List Byte) (clk : Clock), s.handedRequest p .channelConfig = some (payload, clk) →
      (channelConfigArgs payload = none → ∃ t, exec (.channelConfig p) s = .next t ∧ s.Refused t p .badArg) ∧
      (∀ c safe policy, channelConfigArgs payload = some (c, safe, policy) →
        ∃ t, exec (.channelConfig p) s = .next t ∧
          if s.chanHolder c ≠ some p then s.Refused t p .notHolder
          else if (s.chan c).lockSet ≠ 0 then s.Refused t p .locked
          else
            s.Answered t p okEmpty ∧ t = { s with chans := t.chans, clocks := t.clocks, ports := t.ports } ∧
            t.chan c = { s.chan c with safe := safe, policy := policy } ∧ ∀ d, d ≠ c → t.chan d = s.chan d)) ∧
  (∀ (p : Port) (s : State) (payload : List Byte) (clk : Clock) (i : LineId) (mode : EdgeMode) (q d : Nat),
      s.handedRequest p .lineConfig = some (payload, clk) → lineConfigArgs payload = some (i, mode, q, d) →
      s.isCoordinator p = true →
      ∃ t, exec (.lineConfig p) s = .next t ∧ s.Answered t p okEmpty ∧
        t = { s with lines := t.lines, clocks := t.clocks, ports := t.ports } ∧ (∀ j, j ≠ i → t.line j = s.line j) ∧
        t.line i = { s.line i with mode := mode, q := q, d := d, decim := 0, stable := 0 })

/-! ### Leases -/

/-- CLAIM (R76 to R78): BAD_ARG, ALREADY, a grant at once of a free resource with its level, or a place at the tail of the queue. The
claim that meets a lease whose hold limit has passed makes it contested, and a revocation follows (R84; as a mark on the lease, the
model's choice, entry 16). -/
def Obligations.ClaimGrantsOrQueues : Prop :=
  ∀ (p : Port) (s : State) (payload : List Byte) (clk : Clock), s.handedRequest p .claim = some (payload, clk) →
    (claimArgs payload = none → ∃ t, exec (.claim p) s = .next t ∧ s.Refused t p .badArg) ∧
    (∀ r hold wait, claimArgs payload = some (r, hold, wait) →
      ∃ t, exec (.claim p) s = .next t ∧
        if s.holder r = some p ∨ (∃ c ∈ (s.lease r).queue, c.port = p) then s.Refused t p .already
        else
          t = { s with leases := t.leases, clocks := t.clocks, ports := t.ports } ∧ (∀ r', r' ≠ r → t.lease r' = s.lease r') ∧
          if s.holder r = none ∧ (s.lease r).ending = none ∧ (s.lease r).queue = [] then
            s.Answered t p (okWith [if h : r.val < 16 then (if (s.chan ⟨r.val, h⟩).level then 1 else 0) else 0]) ∧
            t.lease r = { s.lease r with
              holder := some p, grantWall := s.tb.wallTime, holdLimit := hold, revokeDue := false }
          else
            s.Answered t p ⟨.queued, bytesOf 1 ((s.lease r).queue.length + 1)⟩ ∧
            t.lease r = { s.lease r with
              queue := (s.lease r).queue ++ [⟨p, hold, wait, s.tb.wallTime⟩]
              revokeDue := (s.lease r).revokeDue || ((s.lease r).holder.isSome && (s.lease r).holdLimit != 0 &&
                decide ((s.lease r).holdLimit ≤ s.wallSince (s.lease r).grantWall)) })

/-- RELEASE (R80, R81, R82, R94): from the holder a lease end begins; on T the grant step follows in the same event, with GRANTED of detail
0 to the first claimant that is not CLOSING; from a claimant the claim is withdrawn; from any other port it is NOT_HOLDER. -/
def Obligations.ReleaseEndsOrWithdraws : Prop :=
  ∀ (p : Port) (s : State) (payload : List Byte) (clk : Clock), s.handedRequest p .release = some (payload, clk) →
    (resourceArg payload = none → ∃ t, exec (.release p) s = .next t ∧ s.Refused t p .badArg) ∧
    (∀ r, resourceArg payload = some r →
      ∃ t, exec (.release p) s = .next t ∧
        (s.holder r = some p → s.Answered t p (okWith [0]) ∧
          t = { s with leases := t.leases, clocks := t.clocks, posts := t.posts, ports := t.ports } ∧
          (∀ r', r' ≠ r → t.lease r' = s.lease r') ∧
          (r ≠ timeline → s.Posted t [] ∧ ∃ k, t.lease r = { s.lease r with
            holder := none, revokeDue := false, ending := some ⟨.release, p, .purgeHanded, k⟩ }) ∧
          (r = timeline → s.GrantsNext t timeline 0 [])) ∧
        (s.holder r ≠ some p → (∃ c ∈ (s.lease r).queue, c.port = p) → s.Answered t p (okWith [1]) ∧
          t = { s with leases := t.leases, clocks := t.clocks, ports := t.ports } ∧
          (∀ r', r' ≠ r → t.lease r' = s.lease r') ∧
          t.lease r = { s.lease r with queue := (s.lease r).queue.filter fun c => c.port != p }) ∧
        (s.holder r ≠ some p → (∀ c ∈ (s.lease r).queue, c.port ≠ p) → s.Refused t p .notHolder))

/-- The steps of a lease end on a channel. The schedule takes the purge of the old holder's entries naming the channel, with DROPPED
(LEASE) for a revocation alone (R43); the Lease Table takes the report and hands the channel its share (R81); at the grant step the
first claimant that is not CLOSING becomes holder, with GRANTED carrying the channel's level, claims of CLOSING ports before it leave
without a notice, and with no such claimant nobody holds the channel (R82). When the old holder's part of a teardown is under way and no
other lease end that it started is left, the grant step reports the part done (R90; the model's reading, entry 25). -/
def Obligations.LeaseEndRunsItsSteps : Prop :=
  (∀ (s : State) (c : Chan) (cause : EndCause) (old : Port) (clk : Clock),
      ((s.lease (resOf c)).ending = some ⟨cause, old, .purgeHanded, clk⟩ → s.scheduleBusy = false →
        ∃ t, exec (.leaseEndPurge c) s = .next t ∧
          t = { s with sched := t.sched, leases := t.leases, clocks := t.clocks, posts := t.posts } ∧
          t.sched = { s.sched with
            entries := s.sched.entries.filter fun e => !(e.owner == old && e.namesChan c), counts := t.sched.counts } ∧
          (∃ k, t.lease (resOf c) = { s.lease (resOf c) with ending := some ⟨cause, old, .purgeReported, k⟩ }) ∧
          (∀ r, r ≠ resOf c → t.lease r = s.lease r) ∧
          s.Posted t (if cause = .revoke then
            (s.sched.entries.filter fun e => e.owner == old && e.namesChan c).map
              fun e => (.schedule, e.owner, ⟨.dropped, e.tag, 1, s.tb.machTime⟩) else [])) ∧
      ((s.lease (resOf c)).ending = some ⟨cause, old, .purgeReported, clk⟩ →
        ∃ t, exec (.purgeReport c) s = .next t ∧ t = { s with leases := t.leases, clocks := t.clocks } ∧
          (∃ k, t.lease (resOf c) = { s.lease (resOf c) with ending := some ⟨cause, old, .shareHanded, k⟩ }) ∧
          ∀ r, r ≠ resOf c → t.lease r = s.lease r)) ∧
  (∀ (s : State) (c : Chan) (cause : EndCause) (old : Port) (clk : Clock),
      (s.lease (resOf c)).ending = some ⟨cause, old, .shareReported, clk⟩ →
      ∃ t, exec (.grantStep c) s = .next t ∧
        t = { s with leases := t.leases, clocks := t.clocks, posts := t.posts, ports := t.ports } ∧
        (∀ r, r ≠ resOf c → t.lease r = s.lease r) ∧ (t.lease (resOf c)).ending = none ∧
        (∀ q, q ≠ old → t.port q = s.port q) ∧
        (let isLast := (s.port old).parts.leases = .working ∧
            ∀ r e, r ≠ resOf c → (s.lease r).ending = some e → ¬ (e.cause = .teardown ∧ e.old = old);
          (isLast → ∃ k, t.port old = { s.port old with parts := { (s.port old).parts with leases := .reported k } }) ∧
          (¬ isLast → t.port old = s.port old)) ∧
        s.GrantsNext t (resOf c) (if (s.chan c).level then 1 else 0) [])

/-- HOLD_LIMIT_EXPIRY and REVOCATION (R84, R85, R94): a lease is contested when it has a holder, a hold limit other than 0 that has passed
since the grant, and a queue that is not empty (R84); a contested lease is to be revoked, and one that is not is left as it is; the
revocation of a lease still contested posts REVOKED and ends the lease, and on T the grant step follows in the same event, GRANTED after
REVOKED; of one contested no longer it does nothing. The revocation to come is a mark on the lease (the model's choice, entry 16), and a
limit that has passed may be acted on at any later wall time (the model's reading, entry 17). WAIT_LIMIT_EXPIRY (R87): a claim whose wait
limit has passed leaves the queue with CLAIM_EXPIRED; before that, and of a wait limit of 0, nothing changes; a claim that has left
already is not missed. Wall ticks since a wall time are the difference, across the return of wall time to 0 modulo 2^48 (the model's
choice, entry 14). -/
def Obligations.LimitsEndLeasesAndClaims : Prop :=
  (∀ (s : State) (r : ResId) (old : Port), s.holder r = some old →
      (s.contested r = true →
        exec (.holdLimitExpiry r) s = .next (s.setLease r { s.lease r with revokeDue := true })) ∧
      ((s.lease r).revokeDue = true → s.contested r = true →
        ∃ t, exec (.revocation r) s = .next t ∧ t = { s with leases := t.leases, clocks := t.clocks, posts := t.posts } ∧
          (∀ r', r' ≠ r → t.lease r' = s.lease r') ∧
          let revoked := (PostBlock.leases, old,
            (⟨.revoked, r.val, min (s.wallSince (s.lease r).grantWall) 16777215, s.tb.machTime⟩ : Notice))
          (r ≠ timeline → s.Posted t [revoked] ∧ ∃ k, t.lease r = { s.lease r with
            holder := none, revokeDue := false, ending := some ⟨.revoke, old, .purgeHanded, k⟩ }) ∧
          (r = timeline → s.GrantsNext t timeline 0 [revoked])) ∧
      ((s.lease r).revokeDue = true → s.contested r = false →
        exec (.revocation r) s = .next (s.setLease r { s.lease r with revokeDue := false }))) ∧
  (∀ (s : State) (r : ResId),
      (s.contested r = true ↔ (∃ old, s.holder r = some old) ∧ (s.lease r).holdLimit ≠ 0 ∧
        (s.lease r).holdLimit ≤ s.wallSince (s.lease r).grantWall ∧ (s.lease r).queue ≠ []) ∧
      (s.contested r = false → exec (.holdLimitExpiry r) s = .next s)) ∧
  (∀ (s : State) (w : Nat), s.tb.wallTime < 2 ^ 48 → w < 2 ^ 48 →
      s.wallSince w = if w ≤ s.tb.wallTime then s.tb.wallTime - w else s.tb.wallTime + 2 ^ 48 - w) ∧
  (∀ (s : State) (r : ResId) (p : Port),
      (∀ claim, ((s.lease r).queue.find? fun c => c.port == p) = some claim → claim.wait ≠ 0 →
        claim.wait ≤ s.wallSince claim.since →
        ∃ t, exec (.waitLimitExpiry r p) s = .next t ∧ t = { s with leases := t.leases, clocks := t.clocks, posts := t.posts } ∧
          t.lease r = { s.lease r with queue := (s.lease r).queue.filter fun c => c.port != p } ∧
          (∀ r', r' ≠ r → t.lease r' = s.lease r') ∧
          s.Posted t [(.leases, p, ⟨.claimExpired, r.val, claim.wait, s.tb.machTime⟩)]) ∧
      (∀ claim, ((s.lease r).queue.find? fun c => c.port == p) = some claim →
        claim.wait = 0 ∨ s.wallSince claim.since < claim.wait → exec (.waitLimitExpiry r p) s = .next s) ∧
      ((∀ c ∈ (s.lease r).queue, c.port ≠ p) → exec (.waitLimitExpiry r p) s = .next s))

/-- LEASE_TEARDOWN (R90, R94): every claim of the port leaves every queue, the claims of other ports staying in their order, and every
lease it holds ends with cause TEARDOWN; when it held T, the grant step follows in the same event, and nothing else is posted; the part is
reported done at once when the port held no channel (entry 25). -/
def Obligations.LeaseTeardownEndsEverything : Prop :=
  ∀ (s : State) (p : Port) (clk : Clock), (s.port p).parts.leases = .handed clk → s.LeasesOk →
    (∀ r e, (s.lease r).ending = some e → ¬ (e.cause = .teardown ∧ e.old = p)) → s.isClosing p = true →
    ∃ t, exec (.leaseTeardown p) s = .next t ∧
      t = { s with leases := t.leases, clocks := t.clocks, posts := t.posts, ports := t.ports } ∧
      (∀ q, q ≠ p → t.port q = s.port q) ∧
      t.port p = { s.port p with parts := { (s.port p).parts with leases := (t.port p).parts.leases } } ∧
      (∀ r, t.holder r ≠ some p) ∧ (∀ r, ∀ c ∈ (t.lease r).queue, c.port ≠ p) ∧
      (∀ c : Chan, s.chanHolder c = some p → ∃ k, t.lease (resOf c) = { s.lease (resOf c) with
        holder := none, revokeDue := false, ending := some ⟨.teardown, p, .purgeHanded, k⟩
        queue := (s.lease (resOf c)).queue.filter fun c => c.port != p }) ∧
      (∀ r, s.holder r ≠ some p → t.lease r = { s.lease r with queue := (s.lease r).queue.filter fun c => c.port != p }) ∧
      (if s.holder timeline = some p then
          (s.setLease timeline { s.lease timeline with
            queue := (s.lease timeline).queue.filter fun c => c.port != p }).GrantsNext t timeline 0 []
        else s.Posted t []) ∧
      (if ∃ c : Chan, s.chanHolder c = some p then (t.port p).parts.leases = .working
        else ∃ k, (t.port p).parts.leases = .reported k)

/-! ### Input lines -/

/-- LINE_SAMPLE (R98): a sample equal to the qualified level returns the count to 0; a different one changes the qualified level at once
when q is 0 and at the q x 16-th sample of a run otherwise, whatever the pace and the edge mode. The sample that changes the qualified
level hands the new level to each trip group and counts the edge, and the edge that completes 2^d is offered to the journal (R99 to
R102). A pin that holds a new level is qualified after q x 16 samples and not before. -/
def Obligations.SamplesQualifyTheLine : Prop :=
  (∀ (s : State) (i : LineId) (level : Level), s.inReset = false →
      ∃ t, exec (.lineSample i level) s = .next t ∧ (t.line i).raw = level ∧
        t = { s with lines := t.lines, lineMsgs := t.lineMsgs, offers := t.offers } ∧
        (∀ j, j ≠ i → t.line j = s.line j) ∧ (t.line i).mode = (s.line i).mode ∧ (t.line i).q = (s.line i).q ∧
        (t.line i).d = (s.line i).d ∧
        (level = (s.line i).qualified →
          (t.line i).qualified = level ∧ (t.line i).stable = 0 ∧ t.lineMsgs = s.lineMsgs ∧ t.offers = s.offers ∧
          (t.line i).decim = (s.line i).decim) ∧
        (level ≠ (s.line i).qualified → (s.line i).q = 0 → s.QualifiesLine t i level) ∧
        (level ≠ (s.line i).qualified → 1 ≤ (s.line i).q → (s.line i).stable + 1 < (s.line i).q * 16 →
          (t.line i).qualified = (s.line i).qualified ∧ (t.line i).stable = (s.line i).stable + 1 ∧
          t.lineMsgs = s.lineMsgs ∧ t.offers = s.offers ∧ (t.line i).decim = (s.line i).decim) ∧
        (level ≠ (s.line i).qualified → 1 ≤ (s.line i).q → (s.line i).q * 16 ≤ (s.line i).stable + 1 →
          s.QualifiesLine t i level)) ∧
  (∀ (s : State) (i : LineId), 1 ≤ (s.line i).q → (s.line i).stable = 0 →
      let level := !(s.line i).qualified
      (∀ n, n < (s.line i).q * 16 →
        ((Nat.repeat (sampleLine i level) n s).line i).qualified = (s.line i).qualified ∧
        ((Nat.repeat (sampleLine i level) n s).line i).stable = n) ∧
      ((Nat.repeat (sampleLine i level) ((s.line i).q * 16) s).line i).qualified = level)

/-- QUALIFIED_CHANGE (R99 to R102): the new level is handed to each trip group; an edge that the mode selects is counted, and the one
that completes 2^d is offered to the journal (entry 11). -/
def Obligations.QualifiedChangeIsHandedOn : Prop :=
  ∀ (s : State) (i : LineId) (level : Level), s.inReset = false → (s.line i).completes level = true →
    ∃ t, exec (.qualifiedChange i level) s = .next t ∧
      t = { s with lines := t.lines, lineMsgs := t.lineMsgs, offers := t.offers } ∧ (∀ j, j ≠ i → t.line j = s.line j) ∧
      s.QualifiesLine t i level

/-! ### The capture journal -/

/-- JOURNAL_OFFER (R114, R118 to R121, R128): the oldest offer of a source is discarded when no OPEN port wants it; it is lost, and
counted, when the ring is full and the tail needed; else it is stored at the head with the next sequence number and its stamps, the
tail of a full ring dropped and the cursors that held it moved on, and JOURNAL_READY goes to each OPEN subscriber it matches whose
latch was clear. The stamps are machine time, or a MARK's own tick time, the low 32 bits of wall time, and HELD in HOLD and in a creep
hold phase. An offer is wanted when an OPEN port's mask holds its kind bit; the tail is needed when it matches a KEEP subscription whose
cursor stands at it; an entry is matched by its kind bit, a GAP by its lost kinds (R113, R115). -/
def Obligations.OfferIsStoredOrLost : Prop :=
  (∀ (s : State) (src : OfferSource) (o : Offer), (s.offers.find? fun x => x.body.source == src) = some o →
    let wanted := ∃ p sub, s.isOpen p = true ∧ s.sub p = some sub ∧ o.body.within sub.mask;
    let held : Bool := s.tb.mode == .hold || (s.tb.mode == .creep && s.tb.creepHolding);
    let wall := s.tb.wallTime % 2 ^ 32;
    ∃ t, exec (.journalOffer src) s = .next t ∧
      t = { s with
        journal := t.journal, queues := t.queues, offers := s.offers.erase o, clocks := t.clocks, posts := t.posts } ∧
      (¬ wanted → t.journal = s.journal ∧ t.queues = s.queues ∧ s.Posted t []) ∧
      (wanted → s.journal.ring.length = 512 → s.journal.tailNeeded = true →
        t.journal = { s.journal with
          lostCount := min (s.journal.lostCount + 1) 65535, lostMask := s.journal.lostMask ||| o.body.kind } ∧
        t.queues = s.queues ∧ s.Posted t []) ∧
      (wanted → s.journal.ring.length ≤ 512 → s.journal.ring.length < 512 ∨ s.journal.tailNeeded = false →
        t.journal.ring = (if s.journal.ring.length < 512 then s.journal.ring else s.journal.ring.tail) ++
          [⟨s.journal.seqCounter, match o.body with
            | .edge i rising => .edge i rising s.tb.machTime wall held
            | .mark owner tag time => .mark owner tag time wall
            | .trip g i => .trip g i s.tb.machTime wall held⟩] ∧
        t.journal.seqCounter = s.journal.seqCounter + 1 ∧ t.journal.lostCount = s.journal.lostCount ∧
        t.journal.lostMask = s.journal.lostMask ∧
        s.Posted t (((List.finRange 4).filter fun p => s.isOpen p && !(s.queue p).latch && (match s.sub p with
            | some sub => (o.body.kind &&& sub.mask) != 0
            | none => false)).map
          fun p => (.journal, p, ⟨.journalReady, 0, s.journal.seqCounter.toNat % 2 ^ 24, s.tb.machTime⟩)) ∧
        (∀ p, t.queue p = { s.queue p with latch := (s.queue p).latch || (s.isOpen p && (match s.sub p with
          | some sub => (o.body.kind &&& sub.mask) != 0
          | none => false)) }) ∧
        ∀ p, t.sub p = (s.sub p).map fun sub =>
          if s.journal.ring.length = 512 ∧ sub.cursor = s.journal.tailSeq then { sub with
            cursor := t.journal.tailSeq, overtaken := sub.overtaken || sub.mode == .skim }
          else sub)) ∧
  (∀ j : Journal, j.tailNeeded = true ↔ ∃ e later p sub, j.ring = e :: later ∧ j.subs[(p : Port)] = some sub ∧
    sub.mode = .keep ∧ sub.cursor = e.seq ∧ e.body.within sub.mask) ∧
  (∀ (o : OfferBody) (mask : KindMask), o.kind &&& mask ≠ 0 ↔ o.within mask) ∧
  (∀ (e : JournalEntry) (mask : KindMask), e.hits mask = true ↔ e.body.within mask)

/-- SUBSCRIBE and UNSUBSCRIBE (R116, R117): the new subscription's cursor is at the head or the tail; a removal clears the latch.
JOURNAL_TEARDOWN (R130): the port's subscription is gone and the part is reported. When a removal leaves the tail not needed with
losses pending, the GAP is stored after it in the same event, with its JOURNAL_READY check (R123, R128); in every other case nothing
else of the journal changes. -/
def Obligations.SubscriptionsComeAndGo : Prop :=
  (∀ (p : Port) (s : State) (payload : List Byte) (clk : Clock),
      (s.handedRequest p .subscribe = some (payload, clk) →
        (subscribeArgs payload = none → ∃ t, exec (.subscribe p) s = .next t ∧ s.Refused t p .badArg) ∧
        (∀ mask mode oldest, subscribeArgs payload = some (mask, mode, oldest) →
          ((s.sub p).isSome → ∃ t, exec (.subscribe p) s = .next t ∧ s.Refused t p .subscribed) ∧
          (s.sub p = none →
            ∃ t, exec (.subscribe p) s = .next t ∧ t = { s with journal := t.journal, clocks := t.clocks, ports := t.ports } ∧
              t.sub p = some ⟨mask, mode, if oldest then s.journal.tailSeq else s.journal.seqCounter, false⟩ ∧
              (∀ q, q ≠ p → t.sub q = s.sub q) ∧ t.journal = { s.journal with subs := t.journal.subs } ∧
              ∃ more : Bool, s.Answered t p (okWith (bytesOf 4
                (if oldest then s.journal.tailSeq else s.journal.seqCounter).toNat ++ [if more then 1 else 0])) ∧
                (s.journal.Ok → (more = true ↔ oldest = true ∧ ∃ e ∈ s.journal.ring, e.hits mask = true))))) ∧
      (s.handedRequest p .unsubscribe = some (payload, clk) →
        (s.sub p = none → ∃ t, exec (.unsubscribe p) s = .next t ∧ s.Refused t p .notSubscribed) ∧
        ((s.sub p).isSome →
          ∃ t, exec (.unsubscribe p) s = .next t ∧ s.Answered t p okEmpty ∧
            t = { s with
              journal := t.journal, queues := t.queues, clocks := t.clocks, posts := t.posts, ports := t.ports } ∧
            t.sub p = none ∧ (t.queue p).latch = false ∧ (t.queue p).notices = (s.queue p).notices ∧
            (s.journal.lostCount = 0 ∨ s.journal.ring.length = 512 → ((s.setSub p none).clearLatch p).GapSettled t)))) ∧
  (∀ (s : State) (p : Port) (clk : Clock), (s.port p).parts.journal = .handed clk →
      ∃ t, exec (.journalTeardown p) s = .next t ∧
        t = { s with journal := t.journal, queues := t.queues, clocks := t.clocks, posts := t.posts, ports := t.ports } ∧
        t.sub p = none ∧ (∃ k, t.port p = { s.port p with parts := { (s.port p).parts with journal := .reported k } }) ∧
        (∀ q, q ≠ p → t.port q = s.port q) ∧
        (s.sub p = none → t.journal = s.journal ∧ t.queues = s.queues ∧ s.Posted t []) ∧
        ((s.sub p).isSome → s.journal.lostCount = 0 ∨ s.journal.ring.length = 512 → (s.setSub p none).GapSettled t))

/-- READ (R125, R126): the entries returned are the first up to n matching ones at or after the cursor, in ring order; the cursor moves
past every entry examined, to just after the n-th matching entry, or to the head; the GAP is stored when that frees the tail with
losses pending (R123); OVERTAKEN is answered and cleared; MORE tells whether a matching entry is left, the GAP included, and the latch
is cleared when none is. The pending GAP (R120, R123, R128): the tail is dropped and the cursors that held it moved on, a GAP with the
lost count and kinds is stored at the head, no loss is pending, and JOURNAL_READY is checked; while the tail is needed nothing is
stored. An entry is 20 bytes with its fields in their places (R189). -/
def Obligations.ReadsAndGapsKeepTheOrder : Prop :=
  (∀ (p : Port) (s : State) (payload : List Byte) (clk : Clock), s.handedRequest p .read = some (payload, clk) →
      (readArg payload = none → ∃ t, exec (.read p) s = .next t ∧ s.Refused t p .badArg) ∧
      (∀ n, readArg payload = some n →
        (s.sub p = none → ∃ t, exec (.read p) s = .next t ∧ s.Refused t p .notSubscribed) ∧
        (∀ sub, s.sub p = some sub → s.journal.Ok →
          let ahead := s.journal.fromCursor sub.cursor
          let found := (ahead.filter fun e => e.hits sub.mask).take n
          ∃ (t : State) (k : Nat) (more : Bool), exec (.read p) s = .next t ∧
            t = { s with
              journal := t.journal, queues := t.queues, clocks := t.clocks, posts := t.posts, ports := t.ports } ∧
            k ≤ ahead.length ∧ (ahead.take k).filter (fun e => e.hits sub.mask) = found ∧
            (found.length < n → k = ahead.length) ∧
            (found.length = n → 1 ≤ k ∧ ∃ e, ahead[k - 1]? = some e ∧ e.hits sub.mask = true) ∧
            s.Answered t p (okWith ([(if more then 1 else 0) + (if sub.overtaken then 2 else 0)] ++
              bytesOf 1 found.length ++ found.flatMap JournalEntry.bytes)) ∧
            let moved := s.setSub p (some { sub with cursor := sub.cursor + BitVec.ofNat 32 k })
            t.sub p = some { sub with cursor := sub.cursor + BitVec.ofNat 32 k, overtaken := false } ∧
            (more = true ↔ (∃ e ∈ ahead.drop k, e.hits sub.mask = true) ∨
              (moved.gapDue = true ∧ s.journal.lostMask &&& sub.mask ≠ 0)) ∧
            ∃ u, moved.GapSettled u ∧ t.journal = { u.journal with subs := t.journal.subs } ∧
              (∀ q, q ≠ p → t.sub q = u.sub q) ∧ t.posts = u.posts ∧
              ∀ q, t.queue q = if q = p ∧ more = false then { u.queue q with latch := false } else u.queue q))) ∧
  (∀ s : State, s.gapDue = false ∨ s.journal.ring.length = 512 →
      s.GapSettled (storeGap s) ∧
      storeGap s = { s with
        journal := (storeGap s).journal, queues := (storeGap s).queues, clocks := (storeGap s).clocks,
        posts := (storeGap s).posts }) ∧
  (∀ e : JournalEntry, e.bytes.length = 20 ∧ fieldOf e.bytes 1 4 = e.seq.toNat ∧ fieldOf e.bytes 19 1 = 0 ∧
      match e.body with
      | .edge i rising mach wall held => fieldOf e.bytes 0 1 = 1 ∧ fieldOf e.bytes 5 1 = i.val ∧ fieldOf e.bytes 6 2 = 0 ∧
          fieldOf e.bytes 8 6 = mach % 2 ^ 48 ∧ fieldOf e.bytes 14 4 = wall % 2 ^ 32 ∧
          fieldOf e.bytes 18 1 = (if held then 1 else 0) + if rising then 2 else 0
      | .mark owner tag mach wall => fieldOf e.bytes 0 1 = 2 ∧ fieldOf e.bytes 5 1 = owner.val ∧
          fieldOf e.bytes 6 2 = tag % 2 ^ 16 ∧ fieldOf e.bytes 8 6 = mach % 2 ^ 48 ∧ fieldOf e.bytes 14 4 = wall % 2 ^ 32 ∧
          fieldOf e.bytes 18 1 = 0
      | .trip g i mach wall held => fieldOf e.bytes 0 1 = 3 ∧ fieldOf e.bytes 5 1 = g.val ∧ fieldOf e.bytes 6 2 = i.val ∧
          fieldOf e.bytes 8 6 = mach % 2 ^ 48 ∧ fieldOf e.bytes 14 4 = wall % 2 ^ 32 ∧
          fieldOf e.bytes 18 1 = if held then 1 else 0
      | .gap lost kinds wall => fieldOf e.bytes 0 1 = 4 ∧ fieldOf e.bytes 5 1 = 0 ∧ fieldOf e.bytes 6 2 = lost % 2 ^ 16 ∧
          fieldOf e.bytes 8 2 = kinds.toNat ∧ fieldOf e.bytes 10 4 = 0 ∧ fieldOf e.bytes 14 4 = wall % 2 ^ 32 ∧
          fieldOf e.bytes 18 1 = 0)

/-! ### Trip groups -/

/-- GROUP_LINE_CHANGE (R140, R141, R143): an ARMED group trips when the line is a source and the level the active one: the trip is
recorded, a lock is handed to each channel of the set, the trip record is offered, and TRIPPED goes once to each port that holds T or
a channel of the set. In every other case the hand-over changes nothing in the group. -/
def Obligations.ActiveLevelTripsTheGroup : Prop :=
  ∀ (s : State) (g : GroupId) (i : LineId) (m : LineMsg), s.nextLineMsg g i = some m →
    ∃ t, exec (.groupLineChange g i) s = .next t ∧ (∀ g', g' ≠ g → t.group g' = s.group g') ∧
      if (s.group g).state = .armed ∧ (s.group g).sources.getLsbD i.val = true ∧ m.level = (s.group g).active then
        t = { s with
          groups := t.groups, lineMsgs := s.lineMsgs.erase m, lockMsgs := t.lockMsgs, offers := t.offers, clocks := t.clocks,
          posts := t.posts } ∧
        t.group g = { s.group g with
          state := .tripped, last := some (i, s.tb.machTime)
          locksOut := ((List.finRange 16).filter fun c => (s.group g).channels.getLsbD c.val).length } ∧
        (∃ new : List LockMsg, t.lockMsgs = s.lockMsgs ++ new ∧ new.map (fun x => (x.group, x.chan, x.lock)) =
          ((List.finRange 16).filter fun c => (s.group g).channels.getLsbD c.val).map fun c => (g, c, true)) ∧
        (∃ o : Offer, o.body = .trip g i ∧ t.offers = s.offers ++ [o]) ∧
        s.Posted t (((List.finRange 4).filter fun p => s.holder timeline == some p ||
            ((List.finRange 16).any fun c => (s.group g).channels.getLsbD c.val && s.chanHolder c == some p)).map
          fun p => (.groups, p, ⟨.tripped, g.val, i.val, s.tb.machTime⟩))
      else t = { s with lineMsgs := s.lineMsgs.erase m, clocks := t.clocks }

/-- LOCK_REPORT and TRIP_PURGE (R44, R142): each report takes one off the locks outstanding, and the last hands the purge of the group's
set; the purge removes every entry that names a channel of the set, with DROPPED (TRIP) to each owner in list order. Of several reports or
purges of one group that wait, the one handed first is taken first (the model's choice, entry 32). -/
def Obligations.LastLockReportHandsThePurge : Prop :=
  ∀ (s : State) (g : GroupId),
    (∀ k later, (s.group g).reports = k :: later →
      ∃ t, exec (.lockReport g) s = .next t ∧ t = { s with groups := t.groups, clocks := t.clocks } ∧
        (∀ g', g' ≠ g → t.group g' = s.group g') ∧
        t.group g = { s.group g with
          reports := later, locksOut := (s.group g).locksOut - 1, purges := (t.group g).purges } ∧
        (t.group g).purges.map TripPurge.channels = (s.group g).purges.map TripPurge.channels ++
          (if (s.group g).locksOut = 1 then [(s.group g).channels] else [])) ∧
    (∀ purge later, (s.group g).purges = purge :: later → s.scheduleBusy = false →
      ∃ t, exec (.tripPurge g) s = .next t ∧
        t = { s with sched := t.sched, groups := t.groups, clocks := t.clocks, posts := t.posts } ∧
        t.group g = { s.group g with purges := later } ∧ (∀ g', g' ≠ g → t.group g' = s.group g') ∧
        t.sched = { s.sched with
          entries := s.sched.entries.filter fun e => !e.namesAny purge.channels, counts := t.sched.counts } ∧
        s.Posted t ((s.sched.entries.filter fun e => e.namesAny purge.channels).map
          fun e => (.schedule, e.owner, ⟨.dropped, e.tag, 2, s.tb.machTime⟩)))

/-- TRIP_CONFIG, ARM and DISARM from the coordinator (R136 to R139): the checks in their order, the group's new record, and the
unlocks handed when the group leaves TRIPPED. -/
def Obligations.GroupRequestsFollowTheirChecks : Prop :=
  ∀ (p : Port) (s : State) (payload : List Byte) (clk : Clock), s.isCoordinator p = true →
    (∀ g sources active channels, s.handedRequest p .tripConfig = some (payload, clk) →
      tripConfigArgs payload = some (g, sources, active, channels) →
      ∃ t, exec (.tripConfig p) s = .next t ∧
        if (s.group g).state ≠ .disarmed then s.Refused t p .notDisarmed
        else if (s.group g).locksOut ≠ 0 then s.Refused t p .locksPending
        else s.Answered t p okEmpty ∧ t = { s with groups := t.groups, clocks := t.clocks, ports := t.ports } ∧
          t.group g = { s.group g with sources := sources, active := active, channels := channels, last := none } ∧
          ∀ g', g' ≠ g → t.group g' = s.group g') ∧
    (∀ g, groupArg payload = some g →
      let unlocks : State → Prop := fun t => ∃ new : List LockMsg, t.lockMsgs = s.lockMsgs ++ new ∧
        new.map (fun x => (x.group, x.chan, x.lock)) = if (s.group g).state = .tripped then
          ((List.finRange 16).filter fun c => (s.group g).channels.getLsbD c.val).map fun c => (g, c, false) else []
      (s.handedRequest p .arm = some (payload, clk) →
        ∃ t, exec (.arm p) s = .next t ∧
          if (s.group g).locksOut ≠ 0 then s.Refused t p .locksPending
          else if (s.group g).state = .armed then
            s.Answered t p okEmpty ∧ t = { s with clocks := t.clocks, ports := t.ports }
          else if (s.group g).sources = 0 ∨ (s.group g).channels = 0 then s.Refused t p .badArg
          else if ∃ i : LineId, (s.group g).sources.getLsbD i.val = true ∧ (s.line i).qualified = (s.group g).active then
            s.Refused t p .lineActive
          else s.Answered t p okEmpty ∧
            t = { s with groups := t.groups, lockMsgs := t.lockMsgs, clocks := t.clocks, ports := t.ports } ∧ unlocks t ∧
            t.group g = { s.group g with state := .armed } ∧ ∀ g', g' ≠ g → t.group g' = s.group g') ∧
      (s.handedRequest p .disarm = some (payload, clk) →
        ∃ t, exec (.disarm p) s = .next t ∧ s.Answered t p okEmpty ∧
          t = { s with groups := t.groups, lockMsgs := t.lockMsgs, clocks := t.clocks, ports := t.ports } ∧ unlocks t ∧
          t.group g = { s.group g with state := .disarmed } ∧ ∀ g', g' ≠ g → t.group g' = s.group g'))

/-! ### Master ports -/

/-- The status byte, bit by bit, and that a transaction fixes it at its start and sends it first (R150, R185). MISO is driven outside the
reset state while the chip select is low, and only then (R192); in a transaction the status byte is followed by the fixed head reply
and then by 0x00 (R150). -/
def Obligations.StatusByteShowsTheFlags : Prop :=
  ∀ (s : State) (p : Port),
    ((s.statusByte p).getLsbD 7 = !(s.port p).replies.isEmpty) ∧
    ((s.statusByte p).getLsbD 6 = !(s.queue p).notices.isEmpty) ∧
    ((s.statusByte p).getLsbD 5 = ((s.port p).session == .closing || ((s.port p).session == .idle && (s.port p).lapsed))) ∧
    ((s.statusByte p).getLsbD 4 = ((s.port p).session == .opened || ((s.port p).session == .idle && (s.port p).lapsed))) ∧
    ((s.statusByte p).getLsbD 3 = ((s.port p).requests.length == 4)) ∧
    ((s.statusByte p).getLsbD 2 = (s.port p).crcErr) ∧ ((s.statusByte p).getLsbD 1 = (s.port p).discard) ∧
    ((s.statusByte p).getLsbD 0 = (s.port p).resetFlag) ∧
    ((s.port p).csLow = false → s.inReset = false →
      ∃ t x, exec (.transactionStart p) s = .next t ∧ (t.port p).txn = some x ∧ x.status = s.statusByte p ∧
        x.outByte 0 = s.statusByte p) ∧
    (s.inReset = false → s.attnPin p = (s.queue p).notices.isEmpty ∧ ∀ c, s.outPin c = (s.chan c).level) ∧
    (∀ k, (s.misoByte p k).isSome = (!s.inReset && (s.port p).csLow)) ∧
    (∀ x, s.inReset = false → (s.port p).csLow = true → (s.port p).txn = some x →
      s.misoByte p 0 = some x.status ∧
      ∀ k, s.misoByte p (k + 1) = some (((x.head.map Reply.bytes).getD []).getD k 0))

/-- TRANSACTION_START and TRANSACTION_END (R150 to R153): the start fixes the status byte and the head reply, and in the reset state begins
no transaction; the end removes a head reply shifted out whole that no flush has removed, discards a frame begun and not complete or too
long, and judges a whole frame that FRAME_JUDGE has not judged (the model's reading, entry 6; CRCERR, entry 26). Where the chip select
is low and no transaction is in progress the end raises it and no more, and where it is high nothing happens. -/
def Obligations.TransactionCarriesOneReply : Prop :=
  ∀ (s : State) (p : Port),
    ((s.port p).csLow = false → s.inReset = false →
      exec (.transactionStart p) s = .next (s.setPort p { s.port p with
        csLow := true, txn := some { status := s.statusByte p, head := (s.port p).replies.head? } })) ∧
    ((s.port p).csLow = false → s.inReset = true →
      exec (.transactionStart p) s = .next (s.setPort p { s.port p with csLow := true })) ∧
    ((s.port p).csLow = true → exec (.transactionStart p) s = .next s) ∧
    (∀ (bytes : List Byte) (x : Transaction), (s.port p).csLow = true → (s.port p).txn = some x →
      let y : PortRec :=
        if x.judged then s.port p
        else match scanFrame bytes with
          | .null => s.port p
          | .short => { s.port p with discard := true }
          | .tooLong => { s.port p with discard := true }
          | .whole f right =>
            if right = true ∧ (s.port p).requests.length < 4 ∧ (s.port p).session ≠ .closing then
              { s.port p with requests := (s.port p).requests ++ [f], discard := false, crcErr := false }
            else { s.port p with discard := true, crcErr := (s.port p).crcErr || !right };
      exec (.transactionEnd p bytes) s = .next (s.setPort p { y with
        csLow := false, txn := none
        replies := if ∃ r, x.head = some r ∧ x.headFlushed = false ∧ r.bytes.length + 1 ≤ bytes.length
          then (s.port p).replies.tail else (s.port p).replies })) ∧
    (∀ bytes : List Byte, (s.port p).csLow = true → (s.port p).txn = none →
      exec (.transactionEnd p bytes) s = .next (s.setPort p { s.port p with csLow := false })) ∧
    (∀ bytes : List Byte, (s.port p).csLow = false → exec (.transactionEnd p bytes) s = .next s)

/-- A frame of any kind but 0 with a payload of up to 28 bytes is read back from its bytes, whatever follows them, with its CRC-8 right;
the CRC-8 run over all its bytes leaves 0; and any other check byte is seen to be wrong (R152, R153, R184). -/
def Obligations.FrameBytesScanBack : Prop :=
  (∀ (f : Frame) (more : List Byte), f.kind ≠ 0 → f.payload.length ≤ 28 →
      scanFrame (f.bytes ++ more) = .whole f true ∧ crc8 f.bytes = 0 ∧ f.bytes.length = 4 + f.payload.length) ∧
  (∀ (f : Frame) (check : Byte) (more : List Byte), f.kind ≠ 0 → f.payload.length ≤ 28 → check ≠ crc8 f.head →
      scanFrame (f.head ++ check :: more) = .whole f false)

/-- FRAME_JUDGE of a frame complete at its last byte (R153): accepted at the tail of the request queue when its CRC-8 is right, the queue
holds fewer than 4 and the port is not CLOSING, with DISCARD and CRCERR cleared; else discarded with DISCARD, and CRCERR for a wrong
CRC-8 (entry 26). A length above 28 is discarded with DISCARD alone. -/
def Obligations.JudgedFrameIsAcceptedOrDiscarded : Prop :=
  ∀ (s : State) (p : Port) (bytes : List Byte) (x : Transaction), (s.port p).txn = some x → x.judged = false →
    (∀ f right, scanFrame bytes = .whole f right →
      ∃ t, exec (.frameJudge p bytes) s = .next t ∧ t = { s with ports := t.ports } ∧ (∀ q, q ≠ p → t.port q = s.port q) ∧
        t.port p =
          if right = true ∧ (s.port p).requests.length < 4 ∧ (s.port p).session ≠ .closing then
            { s.port p with
              requests := (s.port p).requests ++ [f], discard := false, crcErr := false, txn := some { x with judged := true } }
          else { s.port p with
            discard := true, crcErr := (s.port p).crcErr || !right, txn := some { x with judged := true } }) ∧
    (scanFrame bytes = .tooLong →
      exec (.frameJudge p bytes) s = .next (s.setPort p { s.port p with
        discard := true, txn := some { x with judged := true } })) ∧
    (scanFrame bytes = .null → exec (.frameJudge p bytes) s = .next s)

/-- ENGINE_TAKE (R157, R158, R162): with a frame queued, no request in hand and a reply slot free, the head frame is taken, an OPEN
session is renewed, and the frame is answered with the first common check it fails or handed to its block. A kind byte names the request
of its code, and each request allows one payload length, that of SUBMIT being worked out from its bytes 0 and 1 (R186, R187). -/
def Obligations.EngineTakesHeadFrame : Prop :=
  (∀ (s : State) (p : Port) (f : Frame) (later : List Frame), (s.port p).requests = f :: later → (s.port p).inHand = none →
    (s.port p).replies.length < 4 → (s.port p).session ≠ .closing →
    ∃ t, exec (.engineTake p) s = .next t ∧ t = { s with ports := t.ports } ∧ (∀ q, q ≠ p → t.port q = s.port q) ∧
      let x : PortRec := { s.port p with
        requests := later
        lastActivity := if (s.port p).session = .opened then s.tb.wallTime else (s.port p).lastActivity }
      t.port p =
        match kindOf f.kind with
        | none => { x with replies := x.replies ++ [⟨f.kind, f.seq, .badKind, []⟩] }
        | some k =>
          if (s.port p).session = .idle ∧ k ≠ .attach ∧ k ≠ .ident ∧ k ≠ .time then
            { x with replies := x.replies ++ [⟨f.kind, f.seq, .noSession, []⟩] }
          else if lengthOk k f.payload = false then { x with replies := x.replies ++ [⟨f.kind, f.seq, .badLength, []⟩] }
          else { x with inHand := some ⟨f, .handed (s.clock (.port p))⟩ }) ∧
  (∀ (b : Byte) (k : ReqKind), kindOf b = some k ↔ b = (match k with
    | .attach => 0x01
    | .detach => 0x02
    | .ident => 0x03
    | .time => 0x10
    | .pace => 0x11
    | .setclock => 0x12
    | .settime => 0x13
    | .claim => 0x20
    | .release => 0x21
    | .leases => 0x22
    | .submit => 0x30
    | .cancel => 0x31
    | .cancelChannel => 0x32
    | .query => 0x33
    | .schedule => 0x34
    | .channelConfig => 0x40
    | .channels => 0x41
    | .lineConfig => 0x50
    | .lines => 0x51
    | .tripConfig => 0x60
    | .arm => 0x61
    | .disarm => 0x62
    | .trips => 0x63
    | .subscribe => 0x70
    | .unsubscribe => 0x71
    | .read => 0x72
    | .notices => 0x78)) ∧
  (∀ (k : ReqKind) (x : List Byte), lengthOk k x = true ↔ x.length = (match k with
    | .detach | .ident | .time | .schedule | .channels | .lines | .trips | .unsubscribe => 0
    | .release | .leases | .cancelChannel | .arm | .disarm | .read | .notices => 1
    | .pace | .cancel | .query => 2
    | .attach | .channelConfig => 3
    | .lineConfig | .subscribe => 4
    | .setclock | .settime | .tripConfig => 6
    | .claim => 7
    | .submit =>
      8 + (match fieldOf x 0 1 with
        | 0 => 2
        | 1 => 4
        | 2 => 9
        | 3 => 4
        | _ => 0) +
        (if (fieldOf x 1 1).testBit 2 then 6 else 0) + (if (fieldOf x 1 1).testBit 3 then 2 else 0)))

/-- ANSWER_TAKEN (R156, R157, R159, R165): the reply, with the request's kind and sequence number, joins the tail of the reply queue and
the request in hand is none; in a port that has lapsed the four parts of the teardown are handed. -/
def Obligations.AnswerIsPlaced : Prop :=
  ∀ (s : State) (p : Port) (f : Frame) (a : Answer) (clk : Clock), (s.port p).inHand = some ⟨f, .answered a clk⟩ →
    ∃ t, exec (.answerTaken p) s = .next t ∧ t = { s with ports := t.ports, clocks := t.clocks } ∧
      (∀ q, q ≠ p → t.port q = s.port q) ∧
      let x : PortRec := { s.port p with replies := (s.port p).replies ++ [⟨f.kind, f.seq, a.code, a.payload⟩], inHand := none }
      (¬ ((s.port p).session = .closing ∧ (s.port p).cause = some .lapsed) → t.port p = x) ∧
      ((s.port p).session = .closing → (s.port p).cause = some .lapsed →
        ∃ k, t.port p = { x with partsOut := 4, parts := ⟨.handed k, .handed k, .handed k, .handed k⟩ })

/-- ATTACH and DETACH (R161, R164, R165): an ATTACH in IDLE opens the session and clears the lapsed display and the RESET flag; in any
other state it is ALREADY_OPEN. A DETACH makes an OPEN port CLOSING, flushes its request queue and hands the four parts. LAPSE (R163):
more than term wall ticks after the last request taken, an OPEN port becomes CLOSING and its request queue is flushed; with no request
in hand it hands the four parts, with one still to be answered it waits; before that nothing happens. -/
def Obligations.SessionsOpenAndClose : Prop :=
  (∀ (p : Port) (s : State) (payload : List Byte) (clk : Clock),
      (s.handedRequest p .attach = some (payload, clk) →
        ∃ t, exec (.attach p) s = .next t ∧
          if fieldOf payload 0 3 < 64 then s.Refused t p .badArg
          else if (s.port p).session ≠ .idle then s.Refused t p .alreadyOpen
          else t = { s with ports := t.ports, clocks := t.clocks } ∧ (∀ q, q ≠ p → t.port q = s.port q) ∧
            ∃ h k, (s.port p).inHand = some h ∧ t.port p = { s.port p with
              session := .opened, term := some (fieldOf payload 0 3), lastActivity := s.tb.wallTime, lapsed := false,
              resetFlag := false, sessions := (s.port p).sessions + 1
              inHand := some { h with stage := .answered (okWith (bytesOf 1 p.val ++ bytesOf 6 s.tb.wallTime)) k } }) ∧
      (s.handedRequest p .detach = some (payload, clk) → s.isOpen p = true →
        ∃ t, exec (.detach p) s = .next t ∧ t = { s with ports := t.ports } ∧ (∀ q, q ≠ p → t.port q = s.port q) ∧
          ∃ h k, (s.port p).inHand = some h ∧ t.port p = { s.port p with
            session := .closing, cause := some .detach, requests := [], inHand := some { h with stage := .detaching }
            partsOut := 4, parts := ⟨.handed k, .handed k, .handed k, .handed k⟩ })) ∧
  (∀ (s : State) (p : Port) (term : Nat), s.isOpen p = true → (s.port p).term = some term →
      (s.wallSince (s.port p).lastActivity ≤ term → exec (.lapse p) s = .next s) ∧
      (term + 1 ≤ s.wallSince (s.port p).lastActivity →
        ∃ t, exec (.lapse p) s = .next t ∧ t = { s with ports := t.ports } ∧ (∀ q, q ≠ p → t.port q = s.port q) ∧
          let x : PortRec := { s.port p with session := .closing, cause := some .lapsed, requests := [] }
          ((s.port p).inHand = none →
            ∃ k, t.port p = { x with partsOut := 4, parts := ⟨.handed k, .handed k, .handed k, .handed k⟩ }) ∧
          (∀ h, (s.port p).inHand = some h → h.frame.kind ≠ 0x02 → t.port p = x)))

/-- TEARDOWN_REPORT (R165, R166): each report takes one off the parts outstanding, and its part is idle again; at 0 the port is IDLE, after
a DETACH with its reply placed, after a lapse with the reply queue flushed, the head reply of a transaction in progress included (R151),
and the lapsed display set. -/
def Obligations.LastReportEndsTheTeardown : Prop :=
  ∀ (s : State) (p : Port) (b : PartBlock) (clk : Clock), (s.port p).parts.get b = .reported clk →
    ∃ t, exec (.teardownReport p b) s = .next t ∧ t = { s with ports := t.ports, clocks := t.clocks } ∧
      (∀ q, q ≠ p → t.port q = s.port q) ∧
      (t.port p).parts.get b = .idle ∧ (∀ d, d ≠ b → (t.port p).parts.get d = (s.port p).parts.get d) ∧
      (2 ≤ (s.port p).partsOut → t.port p = { s.port p with
        partsOut := (s.port p).partsOut - 1, parts := (t.port p).parts }) ∧
      ((s.port p).partsOut = 1 →
        let x : PortRec := { s.port p with
          session := .idle, partsOut := 0, parts := (t.port p).parts, term := none, cause := none, inHand := none };
        (∀ h, (s.port p).cause = some .detach → (s.port p).inHand = some h →
          t.port p = { x with
            lapsed := false, replies := (s.port p).replies ++ [⟨h.frame.kind, h.frame.seq, .ok, []⟩] }) ∧
        ((s.port p).cause = some .lapsed →
          t.port p = { x with
            lapsed := true, replies := [], txn := (s.port p).txn.map fun y => { y with headFlushed := true } }))

/-- SCHEDULE_TEARDOWN and NOTICE_TEARDOWN (R45, R182): every entry of the port leaves without a notice; its notice queue is emptied and
its latch cleared, so ATTN is high; each part is reported. -/
def Obligations.TeardownPartsRemoveWhatThePortOwns : Prop :=
  ∀ (s : State) (p : Port) (clk : Clock),
    ((s.port p).parts.schedule = .handed clk → s.scheduleBusy = false →
      ∃ t, exec (.scheduleTeardown p) s = .next t ∧ t = { s with sched := t.sched, ports := t.ports, clocks := t.clocks } ∧
        t.sched = { s.sched with entries := s.sched.entries.filter fun e => e.owner != p, counts := t.sched.counts } ∧
        (s.sched.Ok → t.sched.counts[p] = 0) ∧
        (∃ k, t.port p = { s.port p with parts := { (s.port p).parts with schedule := .reported k } }) ∧
        ∀ q, q ≠ p → t.port q = s.port q) ∧
    ((s.port p).parts.notices = .handed clk →
      ∃ t, exec (.noticeTeardown p) s = .next t ∧ t = { s with queues := t.queues, ports := t.ports, clocks := t.clocks } ∧
        t.queue p = ⟨[], false⟩ ∧ t.attnPin p = true ∧ (∀ q, q ≠ p → t.queue q = s.queue q) ∧
        (∃ k, t.port p = { s.port p with parts := { (s.port p).parts with notices := .reported k } }) ∧
        ∀ q, q ≠ p → t.port q = s.port q)

/-- The code of every reply code, as byte 2 of the reply frame (R191). -/
def Obligations.ReplyCarriesItsCode : Prop :=
  ∀ (kind seq : Byte) (payload : List Byte),
    [.ok, .queued, .badKind, .badLength, .badArg, .noSession, .alreadyOpen, .notHolder, .notOwner, .noTag, .already, .schedFull,
      .quota, .late, .locked, .badPace, .lineActive, .notDisarmed, .locksPending, .notSubscribed, .subscribed].map
        (fun code => (Reply.bytes ⟨kind, seq, code, payload⟩)[2]?) =
    [some 0x00, some 0x01, some 0x10, some 0x11, some 0x12, some 0x13, some 0x14, some 0x20, some 0x21, some 0x22, some 0x23,
      some 0x30, some 0x31, some 0x32, some 0x33, some 0x40, some 0x41, some 0x42, some 0x43, some 0x50, some 0x51]

/-! ### Notices -/

/-- NOTICE_POST. To an OPEN port in the post's session (R175 to R177): stored at the tail while fewer than 15 notices stand; a NOTICES_LOST
in place of it at 15; counted into a NOTICES_LOST that stands; ATTN is low afterwards. To a port not OPEN or of another session it
leaves no trace (R173). The post taken is the block's oldest to that port, and while another post to the port from its past waits
nothing is taken (R174; pasts are the model's, entry 12). What a block hears and what it posts is in the past of what it posts next.
REVOCATION hands its REVOKED to the purge, and a purge's DROPPED have in their past all that the purge was handed; a trip hands its
TRIPPED to each lock and to the trip record; LOCK hands what it was handed to the report and to the channels; the last LOCK_REPORT
hands it to the purge, and TRIP_PURGE to its DROPPED; an application hands to its outcome what the channels knew, and the channels
know it afterwards; a machine tick that is done hands all its posts to each of its marks and to the channels it reached, and JOURNAL_OFFER hands
what it was handed to its JOURNAL_READY. -/
def Obligations.PostsAreStoredCountedOrDiscarded : Prop :=
  (∀ (s : State) (p : Port) (b : PostBlock) (x : Post), s.inReset = false → s.nextPost p b = some x → s.postBlocked x = false →
      s.isOpen p = true → x.session = (s.port p).sessions →
      ∃ t, exec (.noticePost p b) s = .next t ∧
        t = { s with queues := t.queues, posts := s.posts.erase x, clocks := t.clocks } ∧
        (∀ q, q ≠ p → t.queue q = s.queue q) ∧ (t.queue p).latch = (s.queue p).latch ∧ t.attnPin p = false ∧
        ((∀ n ∈ (s.queue p).notices, n.kind ≠ .noticesLost) → (s.queue p).notices.length < 15 →
          (t.queue p).notices = (s.queue p).notices ++ [x.notice]) ∧
        ((∀ n ∈ (s.queue p).notices, n.kind ≠ .noticesLost) → 15 ≤ (s.queue p).notices.length →
          (t.queue p).notices = (s.queue p).notices ++ [⟨.noticesLost, 0, 1, x.notice.stamp⟩]) ∧
        (∀ front n, (s.queue p).notices = front ++ [n] → n.kind = .noticesLost →
          (∀ m ∈ front, m.kind ≠ .noticesLost) →
          (t.queue p).notices = front ++ [{ n with detail := min (n.detail + 1) 65535 }])) ∧
  (∀ (s : State) (p : Port) (b : PostBlock) (x : Post), s.nextPost p b = some x → s.postBlocked x = false →
      (s.isOpen p = false ∨ x.session ≠ (s.port p).sessions →
        ∃ t, exec (.noticePost p b) s = .next t ∧ t = { s with posts := s.posts.erase x, clocks := t.clocks }) ∧
      (∃ before after, s.posts = before ++ x :: after ∧ x.port = p ∧ x.block = b ∧
        (∀ y ∈ before, ¬ (y.port = p ∧ y.block = b)) ∧ s.posts.erase x = before ++ after)) ∧
  (∀ (s : State) (p : Port) (b : PostBlock) (x y : Post), s.nextPost p b = some x → y ∈ s.posts → y.port = p → y ≠ x →
      y.inPast x.clk → exec (.noticePost p b) s = .next s) ∧
  (∀ (s : State) (a : Agent) (k : Clock) (y : Post), y.inPast k ∨ y.inPast (s.clock a) → y.inPast ((s.hear a k).clock a)) ∧
  (∀ (s : State) (b : PostBlock) (p : Port) (n : Notice), ∃ x, (s.post b p n).posts = s.posts ++ [x] ∧
      x.inPast ((s.post b p n).clock (agentOf b)) ∧ ∀ y : Post, y.inPast (s.clock (agentOf b)) → y.inPast x.clk) ∧
  (∀ (s t : State) (c : Chan) (new : List Post), exec (.revocation (resOf c)) s = .next t → t.posts = s.posts ++ new →
      ∀ x ∈ new, ∃ e, (t.lease (resOf c)).ending = some e ∧ x.inPast e.clk) ∧
  (∀ (s t : State) (c : Chan) (e : Ending) (new : List Post), (s.lease (resOf c)).ending = some e →
      exec (.leaseEndPurge c) s = .next t → t.posts = s.posts ++ new →
      ∀ y : Post, y.inPast e.clk → ∀ x ∈ new, y.inPast x.clk) ∧
  (∀ (s t : State) (g : GroupId) (i : LineId) (new : List Post) (locks : List LockMsg) (offers : List Offer),
      exec (.groupLineChange g i) s = .next t → t.posts = s.posts ++ new → t.lockMsgs = s.lockMsgs ++ locks →
      t.offers = s.offers ++ offers →
      ∀ x ∈ new, (∀ m ∈ locks, x.inPast m.clk) ∧ ∀ o ∈ offers, x.inPast o.clk) ∧
  (∀ (s t : State) (c : Chan) (g : GroupId) (m : LockMsg), s.nextLockMsg c g = some m → m.lock = true →
      exec (.lock c g) s = .next t →
      ∃ k, (t.group g).reports = (s.group g).reports ++ [k] ∧
        ∀ y : Post, y.inPast m.clk → y.inPast k ∧ y.inPast (t.clock .channels)) ∧
  (∀ (s t : State) (g : GroupId) (k : Clock) (later : List Clock), (s.group g).reports = k :: later →
      (s.group g).locksOut = 1 → exec (.lockReport g) s = .next t →
      ∃ purge, (t.group g).purges = (s.group g).purges ++ [purge] ∧ ∀ y : Post, y.inPast k → y.inPast purge.clk) ∧
  (∀ (s t : State) (g : GroupId) (purge : TripPurge) (later : List TripPurge) (new : List Post),
      (s.group g).purges = purge :: later → exec (.tripPurge g) s = .next t → t.posts = s.posts ++ new →
      ∀ y : Post, y.inPast purge.clk → ∀ x ∈ new, y.inPast x.clk) ∧
  (∀ (s t : State) (w : Work) (e : Entry) (new : List Post), s.sched.work = some w → w.handed = some e →
      exec .application s = .next t → t.posts = s.posts ++ new →
      (∀ y : Post, y.inPast (s.clock .channels) → ∀ x ∈ new, y.inPast x.clk) ∧
      (∀ x ∈ new, x.inPast (t.clock .channels) ∧ x.inPast (t.clock .schedule)) ∧
      ∀ offers : List Offer, t.offers = s.offers ++ offers → ∀ o ∈ offers, (∀ x ∈ new, x.inPast o.clk) ∧
        ∀ y : Post, y.inPast (s.clock .schedule) → y.inPast o.clk) ∧
  (∀ (s t : State) (slice : Nat) (new : List Post) (offers : List Offer), exec (.scheduleTick slice) s = .next t →
      t.posts = s.posts ++ new → t.offers = s.offers ++ offers →
      (∀ x ∈ new, x.inPast (t.clock .schedule)) ∧ (∀ y : Post, y.inPast (s.clock .schedule) → y.inPast (t.clock .schedule)) ∧
      (∀ o ∈ offers, ∀ y : Post, y.inPast (t.clock .schedule) → y.inPast o.clk) ∧
      (∀ w, s.sched.work = some w → w.reached = true → t.sched.work = none →
        ∀ y : Post, y.inPast (t.clock .schedule) → y.inPast (t.clock .channels))) ∧
  (∀ (s t : State) (src : OfferSource) (o : Offer) (new : List Post),
      (s.offers.find? fun x => x.body.source == src) = some o → exec (.journalOffer src) s = .next t →
      t.posts = s.posts ++ new → ∀ y : Post, y.inPast o.clk → ∀ x ∈ new, y.inPast x.clk)

/-- NOTICES (R178): BAD_ARG for n outside 1 to 4; else up to n notices leave from the front and are returned, the latch untouched. A notice
is 12 bytes: its kind, subject, detail and stamp (R172, R190). -/
def Obligations.NoticesLeaveFromTheFront : Prop :=
  ∀ (p : Port) (s : State) (payload : List Byte) (clk : Clock), s.handedRequest p .notices = some (payload, clk) →
    let n := fieldOf payload 0 1
    (n = 0 ∨ 4 < n → ∃ t, exec (.notices p) s = .next t ∧ s.Refused t p .badArg) ∧
    (1 ≤ n → n ≤ 4 →
      ∃ t, exec (.notices p) s = .next t ∧ t = { s with queues := t.queues, clocks := t.clocks, ports := t.ports } ∧
        (∀ q, q ≠ p → t.queue q = s.queue q) ∧
        t.queue p = { s.queue p with notices := (s.queue p).notices.drop n } ∧
        s.Answered t p (okWith (bytesOf 1 (min n (s.queue p).notices.length) ++
          ((s.queue p).notices.take n).flatMap Notice.bytes)) ∧
        ∀ m : Notice, m.bytes.length = 12 ∧ fieldOf m.bytes 1 2 = m.subject % 2 ^ 16 ∧ fieldOf m.bytes 3 3 = m.detail % 2 ^ 24 ∧
          fieldOf m.bytes 6 6 = m.stamp % 2 ^ 48 ∧ fieldOf m.bytes 0 1 = (match m.kind with
            | .fired => 0x01
            | .late => 0x02
            | .skipped => 0x03
            | .superseded => 0x04
            | .dropped => 0x05
            | .waveDone => 0x06
            | .granted => 0x10
            | .revoked => 0x11
            | .claimExpired => 0x12
            | .pace => 0x20
            | .timeEnd => 0x21
            | .tripped => 0x30
            | .unlocked => 0x31
            | .journalReady => 0x40
            | .noticesLost => 0x7F))

/-! ### Reset -/

/-- RESET_ENTRY, RESET_RELEASE and POWER_APPLIED (R18, R97): 16 low samples put every block at its reset values, fewer do nothing; a
release starts every block from its reset values with each line at its pin's level; after power the release has no effect until RESET
has been low for 16 periods. Commands that wait and chip selects stay (entries 3, 5 and 23). -/
def Obligations.ResetClearsEveryBlock : Prop :=
  ∀ s : State,
    (∀ n, n < 16 → exec (.resetEntry n) s = .next s) ∧
    (∀ n, 16 ≤ n → ∃ t, exec (.resetEntry n) s = .next t ∧
      t = { State.reset with inReset := true, ports := t.ports, pending := s.pending } ∧
      (∀ p, t.port p = { csLow := (s.port p).csLow }) ∧ (∀ c, t.outPin c = false) ∧ (∀ p, t.attnPin p = true) ∧
      ∀ p k, t.misoByte p k = none) ∧
    (∀ pins : LineSet, s.inReset = true → s.resetSeenLow = true → ∃ t, exec (.resetRelease pins) s = .next t ∧
      t = { State.reset with lines := t.lines, ports := t.ports, pending := s.pending } ∧
      (∀ p, t.port p = { csLow := (s.port p).csLow }) ∧
      ∀ i, t.line i = { raw := pins.getLsbD i.val, qualified := pins.getLsbD i.val }) ∧
    (∃ t, exec .powerApplied s = .next t ∧
      t = { State.reset with inReset := true, resetSeenLow := false, ports := t.ports, pending := s.pending } ∧
      (∀ p, t.port p = { csLow := (s.port p).csLow }) ∧ ∀ pins, exec (.resetRelease pins) t = .next t)

/-- The reset values the spec gives (R18, R19, R51, R74, R96, R111, R135, R149, R171), and that the part at reset meets every invariant that
follows. -/
def Obligations.ResetValuesMeetInvariants : Prop :=
  (∀ s : State, s = State.reset →
    s.tb.wallTime = 0 ∧ s.tb.machTime = 0 ∧ s.tb.mode = .hold ∧ s.tb.pendingSteps = 0 ∧ s.tb.factor = 2 ∧ s.tb.tdiv = 1 ∧
    s.tb.cycle = 65536 ∧ s.sched.entries = [] ∧ s.sched.tagCounter = 1 ∧ s.sched.insertions = 0 ∧
    (∀ p : Port, s.sched.counts[p] = 0) ∧
    (∀ c, (s.chan c).level = false ∧ (s.chan c).wave = none ∧ (s.chan c).safe = false ∧ (s.chan c).policy = .keep ∧
      (s.chan c).lockSet = 0) ∧
    (∀ r, s.holder r = none ∧ (s.lease r).grantWall = 0 ∧ (s.lease r).holdLimit = 0 ∧ (s.lease r).ending = none ∧
      (s.lease r).queue = []) ∧
    (∀ i, (s.line i).stable = 0 ∧ (s.line i).mode = .off ∧ (s.line i).q = 0 ∧ (s.line i).d = 0 ∧ (s.line i).decim = 0) ∧
    s.journal.ring = [] ∧ s.journal.seqCounter = 0 ∧ s.journal.lostCount = 0 ∧ s.journal.lostMask = 0 ∧
    (∀ p, s.sub p = none) ∧
    (∀ g, (s.group g).state = .disarmed ∧ (s.group g).sources = 0 ∧ (s.group g).active = true ∧ (s.group g).channels = 0 ∧
      (s.group g).last = none ∧ (s.group g).locksOut = 0) ∧
    (∀ p, (s.port p).session = .idle ∧ (s.port p).lapsed = false ∧ (s.port p).cause = none ∧ (s.port p).term = none ∧
      (s.port p).lastActivity = 0 ∧ (s.port p).requests = [] ∧ (s.port p).replies = [] ∧ (s.port p).inHand = none ∧
      (s.port p).partsOut = 0 ∧ (s.port p).crcErr = false ∧ (s.port p).discard = false ∧ (s.port p).resetFlag = true ∧
      (s.port p).sessions = 0) ∧
    (∀ p, (s.queue p).notices = [] ∧ (s.queue p).latch = false ∧ s.attnPin p = true)) ∧
  (State.reset.tb.Ok ∧ State.reset.sched.Ok ∧ (∀ c, (State.reset.chan c).Ok) ∧ State.reset.LeasesOk ∧
    (∀ i, (State.reset.line i).Ok) ∧ State.reset.journal.Ok ∧ (∀ g, State.reset.GroupOk g) ∧ (∀ p, (State.reset.port p).Ok) ∧
    State.reset.NoticesOk)

/-! ### Invariants -/

/-- Every step keeps the Timebase's ranges and what goes with each pace (R1, R2, R4, R7 to R9). -/
def Obligations.StepKeepsTimebase : Prop :=
  ∀ s t : State, s.tb.Ok → step s = .next t → t.tb.Ok

/-- Every step keeps the schedule's order, limits, counts and tags (R19, R21 to R23). -/
def Obligations.StepKeepsSchedule : Prop :=
  ∀ s t : State, s.sched.Ok → step s = .next t → t.sched.Ok

/-- Every step keeps each LOCKED channel at its safe level with nothing in flight, and each waveform's level with its phase (R52, R69); and
each line's counts in range (R96). -/
def Obligations.StepKeepsChannelsAndLines : Prop :=
  (∀ s t : State, (∀ c, (s.chan c).Ok) → step s = .next t → ∀ c, (t.chan c).Ok) ∧
  (∀ s t : State, (∀ i, (s.line i).Ok) → step s = .next t → ∀ i, (t.line i).Ok)

/-- Every step keeps at most one holder of each resource, who does not wait, and no port twice in a queue (R75). -/
def Obligations.StepKeepsLeases : Prop :=
  ∀ s t : State, s.LeasesOk → step s = .next t → t.LeasesOk

/-- Every step keeps at most 512 entries with consecutive sequence numbers, every cursor in the ring, and losses pending only while
the ring is full and its tail needed (R111, R112, R122). -/
def Obligations.StepKeepsJournal : Prop :=
  ∀ s t : State, s.journal.Ok → step s = .next t → t.journal.Ok

/-- Every step keeps the locks of each trip accounted for, and an ARMED group with sources, channels and no lock outstanding (R137,
R142). -/
def Obligations.StepKeepsGroups : Prop :=
  ∀ s t : State, (∀ g, s.GroupOk g) → step s = .next t → ∀ g, t.GroupOk g

/-- Every step keeps each port's queues at 4 with the reserved slot counted, and its session, term and teardown together (R149, R155,
R156, R165). -/
def Obligations.StepKeepsPorts : Prop :=
  ∀ s t : State, (∀ p, (s.port p).Ok) → step s = .next t → ∀ p, (t.port p).Ok

/-- Every step keeps each notice queue at 16 at most, a NOTICES_LOST last (R171). -/
def Obligations.StepKeepsNotices : Prop :=
  ∀ s t : State, s.NoticesOk → step s = .next t → t.NoticesOk

/-- No step takes an entry out of the journal while a KEEP subscription that it matches has its cursor at or before it: after the
step the entry is in the ring, or the subscription is gone, or its cursor has moved past the entry (R122). -/
def Obligations.KeepReaderLosesNoEntry : Prop :=
  ∀ (s t : State) (p : Port) (sub : Subscription) (k : Nat) (e : JournalEntry), s.journal.Ok → step s = .next t →
    s.sub p = some sub → sub.mode = .keep → s.journal.ring[k]? = some e → s.journal.position sub.cursor ≤ k →
    e.hits sub.mask = true →
    e ∈ t.journal.ring ∨ t.sub p = none ∨
      ∃ sub', t.sub p = some sub' ∧ (e.seq - sub.cursor).toNat < (sub'.cursor - sub.cursor).toNat
end

