-- ==== Sys2Proof/Laws/State.lean ====
section
/-! SUPPORT. What each update of State leaves as it was, field by field and reader by reader, and what it writes. -/

namespace Sys2Proof.Machine

/-! ### setChan -/

@[simp] theorem State.setChan_inReset (s : State) (c : Chan) (x : Channel) : (s.setChan c x).inReset = s.inReset := rfl
@[simp] theorem State.setChan_resetSeenLow (s : State) (c : Chan) (x : Channel) : (s.setChan c x).resetSeenLow = s.resetSeenLow := rfl
@[simp] theorem State.setChan_tb (s : State) (c : Chan) (x : Channel) : (s.setChan c x).tb = s.tb := rfl
@[simp] theorem State.setChan_sched (s : State) (c : Chan) (x : Channel) : (s.setChan c x).sched = s.sched := rfl
@[simp] theorem State.setChan_leases (s : State) (c : Chan) (x : Channel) : (s.setChan c x).leases = s.leases := rfl
@[simp] theorem State.setChan_lines (s : State) (c : Chan) (x : Channel) : (s.setChan c x).lines = s.lines := rfl
@[simp] theorem State.setChan_journal (s : State) (c : Chan) (x : Channel) : (s.setChan c x).journal = s.journal := rfl
@[simp] theorem State.setChan_groups (s : State) (c : Chan) (x : Channel) : (s.setChan c x).groups = s.groups := rfl
@[simp] theorem State.setChan_ports (s : State) (c : Chan) (x : Channel) : (s.setChan c x).ports = s.ports := rfl
@[simp] theorem State.setChan_queues (s : State) (c : Chan) (x : Channel) : (s.setChan c x).queues = s.queues := rfl
@[simp] theorem State.setChan_posts (s : State) (c : Chan) (x : Channel) : (s.setChan c x).posts = s.posts := rfl
@[simp] theorem State.setChan_offers (s : State) (c : Chan) (x : Channel) : (s.setChan c x).offers = s.offers := rfl
@[simp] theorem State.setChan_lineMsgs (s : State) (c : Chan) (x : Channel) : (s.setChan c x).lineMsgs = s.lineMsgs := rfl
@[simp] theorem State.setChan_lockMsgs (s : State) (c : Chan) (x : Channel) : (s.setChan c x).lockMsgs = s.lockMsgs := rfl
@[simp] theorem State.setChan_clocks (s : State) (c : Chan) (x : Channel) : (s.setChan c x).clocks = s.clocks := rfl
@[simp] theorem State.setChan_pending (s : State) (c : Chan) (x : Channel) : (s.setChan c x).pending = s.pending := rfl
@[simp] theorem State.setChan_lease (s : State) (c : Chan) (x : Channel) (r' : ResId) : (s.setChan c x).lease r' = s.lease r' := rfl
@[simp] theorem State.setChan_line (s : State) (c : Chan) (x : Channel) (i' : LineId) : (s.setChan c x).line i' = s.line i' := rfl
@[simp] theorem State.setChan_group (s : State) (c : Chan) (x : Channel) (g' : GroupId) : (s.setChan c x).group g' = s.group g' := rfl
@[simp] theorem State.setChan_port (s : State) (c : Chan) (x : Channel) (p' : Port) : (s.setChan c x).port p' = s.port p' := rfl
@[simp] theorem State.setChan_queue (s : State) (c : Chan) (x : Channel) (p' : Port) : (s.setChan c x).queue p' = s.queue p' := rfl
@[simp] theorem State.setChan_sub (s : State) (c : Chan) (x : Channel) (p' : Port) : (s.setChan c x).sub p' = s.sub p' := rfl
@[simp] theorem State.setChan_clock (s : State) (c : Chan) (x : Channel) (a' : Agent) : (s.setChan c x).clock a' = s.clock a' := rfl
@[simp] theorem State.setChan_holder (s : State) (c : Chan) (x : Channel) (r' : ResId) : (s.setChan c x).holder r' = s.holder r' := rfl
@[simp] theorem State.setChan_chanHolder (s : State) (c : Chan) (x : Channel) (c' : Chan) : (s.setChan c x).chanHolder c' = s.chanHolder c' := rfl
@[simp] theorem State.setChan_isCoordinator (s : State) (c : Chan) (x : Channel) (p' : Port) : (s.setChan c x).isCoordinator p' = s.isCoordinator p' := rfl
@[simp] theorem State.setChan_session (s : State) (c : Chan) (x : Channel) (p' : Port) : (s.setChan c x).session p' = s.session p' := rfl
@[simp] theorem State.setChan_isOpen (s : State) (c : Chan) (x : Channel) (p' : Port) : (s.setChan c x).isOpen p' = s.isOpen p' := rfl
@[simp] theorem State.setChan_isClosing (s : State) (c : Chan) (x : Channel) (p' : Port) : (s.setChan c x).isClosing p' = s.isClosing p' := rfl
@[simp] theorem State.setChan_openPorts (s : State) (c : Chan) (x : Channel) : (s.setChan c x).openPorts = s.openPorts := rfl
@[simp] theorem State.setChan_wallSince (s : State) (c : Chan) (x : Channel) (n' : Nat) : (s.setChan c x).wallSince n' = s.wallSince n' := rfl
@[simp] theorem State.setChan_wallLow (s : State) (c : Chan) (x : Channel) : (s.setChan c x).wallLow = s.wallLow := rfl
@[simp] theorem State.setChan_handedRequest (s : State) (c : Chan) (x : Channel) (p' : Port) (k' : ReqKind) : (s.setChan c x).handedRequest p' k' = s.handedRequest p' k' := rfl

/-! ### setLease -/

@[simp] theorem State.setLease_inReset (s : State) (r : ResId) (x : Lease) : (s.setLease r x).inReset = s.inReset := rfl
@[simp] theorem State.setLease_resetSeenLow (s : State) (r : ResId) (x : Lease) : (s.setLease r x).resetSeenLow = s.resetSeenLow := rfl
@[simp] theorem State.setLease_tb (s : State) (r : ResId) (x : Lease) : (s.setLease r x).tb = s.tb := rfl
@[simp] theorem State.setLease_sched (s : State) (r : ResId) (x : Lease) : (s.setLease r x).sched = s.sched := rfl
@[simp] theorem State.setLease_chans (s : State) (r : ResId) (x : Lease) : (s.setLease r x).chans = s.chans := rfl
@[simp] theorem State.setLease_lines (s : State) (r : ResId) (x : Lease) : (s.setLease r x).lines = s.lines := rfl
@[simp] theorem State.setLease_journal (s : State) (r : ResId) (x : Lease) : (s.setLease r x).journal = s.journal := rfl
@[simp] theorem State.setLease_groups (s : State) (r : ResId) (x : Lease) : (s.setLease r x).groups = s.groups := rfl
@[simp] theorem State.setLease_ports (s : State) (r : ResId) (x : Lease) : (s.setLease r x).ports = s.ports := rfl
@[simp] theorem State.setLease_queues (s : State) (r : ResId) (x : Lease) : (s.setLease r x).queues = s.queues := rfl
@[simp] theorem State.setLease_posts (s : State) (r : ResId) (x : Lease) : (s.setLease r x).posts = s.posts := rfl
@[simp] theorem State.setLease_offers (s : State) (r : ResId) (x : Lease) : (s.setLease r x).offers = s.offers := rfl
@[simp] theorem State.setLease_lineMsgs (s : State) (r : ResId) (x : Lease) : (s.setLease r x).lineMsgs = s.lineMsgs := rfl
@[simp] theorem State.setLease_lockMsgs (s : State) (r : ResId) (x : Lease) : (s.setLease r x).lockMsgs = s.lockMsgs := rfl
@[simp] theorem State.setLease_clocks (s : State) (r : ResId) (x : Lease) : (s.setLease r x).clocks = s.clocks := rfl
@[simp] theorem State.setLease_pending (s : State) (r : ResId) (x : Lease) : (s.setLease r x).pending = s.pending := rfl
@[simp] theorem State.setLease_chan (s : State) (r : ResId) (x : Lease) (c' : Chan) : (s.setLease r x).chan c' = s.chan c' := rfl
@[simp] theorem State.setLease_line (s : State) (r : ResId) (x : Lease) (i' : LineId) : (s.setLease r x).line i' = s.line i' := rfl
@[simp] theorem State.setLease_group (s : State) (r : ResId) (x : Lease) (g' : GroupId) : (s.setLease r x).group g' = s.group g' := rfl
@[simp] theorem State.setLease_port (s : State) (r : ResId) (x : Lease) (p' : Port) : (s.setLease r x).port p' = s.port p' := rfl
@[simp] theorem State.setLease_queue (s : State) (r : ResId) (x : Lease) (p' : Port) : (s.setLease r x).queue p' = s.queue p' := rfl
@[simp] theorem State.setLease_sub (s : State) (r : ResId) (x : Lease) (p' : Port) : (s.setLease r x).sub p' = s.sub p' := rfl
@[simp] theorem State.setLease_clock (s : State) (r : ResId) (x : Lease) (a' : Agent) : (s.setLease r x).clock a' = s.clock a' := rfl
@[simp] theorem State.setLease_session (s : State) (r : ResId) (x : Lease) (p' : Port) : (s.setLease r x).session p' = s.session p' := rfl
@[simp] theorem State.setLease_isOpen (s : State) (r : ResId) (x : Lease) (p' : Port) : (s.setLease r x).isOpen p' = s.isOpen p' := rfl
@[simp] theorem State.setLease_isClosing (s : State) (r : ResId) (x : Lease) (p' : Port) : (s.setLease r x).isClosing p' = s.isClosing p' := rfl
@[simp] theorem State.setLease_openPorts (s : State) (r : ResId) (x : Lease) : (s.setLease r x).openPorts = s.openPorts := rfl
@[simp] theorem State.setLease_wallSince (s : State) (r : ResId) (x : Lease) (n' : Nat) : (s.setLease r x).wallSince n' = s.wallSince n' := rfl
@[simp] theorem State.setLease_wallLow (s : State) (r : ResId) (x : Lease) : (s.setLease r x).wallLow = s.wallLow := rfl
@[simp] theorem State.setLease_handedRequest (s : State) (r : ResId) (x : Lease) (p' : Port) (k' : ReqKind) : (s.setLease r x).handedRequest p' k' = s.handedRequest p' k' := rfl

/-! ### setLine -/

@[simp] theorem State.setLine_inReset (s : State) (i : LineId) (x : Line) : (s.setLine i x).inReset = s.inReset := rfl
@[simp] theorem State.setLine_resetSeenLow (s : State) (i : LineId) (x : Line) : (s.setLine i x).resetSeenLow = s.resetSeenLow := rfl
@[simp] theorem State.setLine_tb (s : State) (i : LineId) (x : Line) : (s.setLine i x).tb = s.tb := rfl
@[simp] theorem State.setLine_sched (s : State) (i : LineId) (x : Line) : (s.setLine i x).sched = s.sched := rfl
@[simp] theorem State.setLine_chans (s : State) (i : LineId) (x : Line) : (s.setLine i x).chans = s.chans := rfl
@[simp] theorem State.setLine_leases (s : State) (i : LineId) (x : Line) : (s.setLine i x).leases = s.leases := rfl
@[simp] theorem State.setLine_journal (s : State) (i : LineId) (x : Line) : (s.setLine i x).journal = s.journal := rfl
@[simp] theorem State.setLine_groups (s : State) (i : LineId) (x : Line) : (s.setLine i x).groups = s.groups := rfl
@[simp] theorem State.setLine_ports (s : State) (i : LineId) (x : Line) : (s.setLine i x).ports = s.ports := rfl
@[simp] theorem State.setLine_queues (s : State) (i : LineId) (x : Line) : (s.setLine i x).queues = s.queues := rfl
@[simp] theorem State.setLine_posts (s : State) (i : LineId) (x : Line) : (s.setLine i x).posts = s.posts := rfl
@[simp] theorem State.setLine_offers (s : State) (i : LineId) (x : Line) : (s.setLine i x).offers = s.offers := rfl
@[simp] theorem State.setLine_lineMsgs (s : State) (i : LineId) (x : Line) : (s.setLine i x).lineMsgs = s.lineMsgs := rfl
@[simp] theorem State.setLine_lockMsgs (s : State) (i : LineId) (x : Line) : (s.setLine i x).lockMsgs = s.lockMsgs := rfl
@[simp] theorem State.setLine_clocks (s : State) (i : LineId) (x : Line) : (s.setLine i x).clocks = s.clocks := rfl
@[simp] theorem State.setLine_pending (s : State) (i : LineId) (x : Line) : (s.setLine i x).pending = s.pending := rfl
@[simp] theorem State.setLine_chan (s : State) (i : LineId) (x : Line) (c' : Chan) : (s.setLine i x).chan c' = s.chan c' := rfl
@[simp] theorem State.setLine_lease (s : State) (i : LineId) (x : Line) (r' : ResId) : (s.setLine i x).lease r' = s.lease r' := rfl
@[simp] theorem State.setLine_group (s : State) (i : LineId) (x : Line) (g' : GroupId) : (s.setLine i x).group g' = s.group g' := rfl
@[simp] theorem State.setLine_port (s : State) (i : LineId) (x : Line) (p' : Port) : (s.setLine i x).port p' = s.port p' := rfl
@[simp] theorem State.setLine_queue (s : State) (i : LineId) (x : Line) (p' : Port) : (s.setLine i x).queue p' = s.queue p' := rfl
@[simp] theorem State.setLine_sub (s : State) (i : LineId) (x : Line) (p' : Port) : (s.setLine i x).sub p' = s.sub p' := rfl
@[simp] theorem State.setLine_clock (s : State) (i : LineId) (x : Line) (a' : Agent) : (s.setLine i x).clock a' = s.clock a' := rfl
@[simp] theorem State.setLine_holder (s : State) (i : LineId) (x : Line) (r' : ResId) : (s.setLine i x).holder r' = s.holder r' := rfl
@[simp] theorem State.setLine_chanHolder (s : State) (i : LineId) (x : Line) (c' : Chan) : (s.setLine i x).chanHolder c' = s.chanHolder c' := rfl
@[simp] theorem State.setLine_isCoordinator (s : State) (i : LineId) (x : Line) (p' : Port) : (s.setLine i x).isCoordinator p' = s.isCoordinator p' := rfl
@[simp] theorem State.setLine_session (s : State) (i : LineId) (x : Line) (p' : Port) : (s.setLine i x).session p' = s.session p' := rfl
@[simp] theorem State.setLine_isOpen (s : State) (i : LineId) (x : Line) (p' : Port) : (s.setLine i x).isOpen p' = s.isOpen p' := rfl
@[simp] theorem State.setLine_isClosing (s : State) (i : LineId) (x : Line) (p' : Port) : (s.setLine i x).isClosing p' = s.isClosing p' := rfl
@[simp] theorem State.setLine_openPorts (s : State) (i : LineId) (x : Line) : (s.setLine i x).openPorts = s.openPorts := rfl
@[simp] theorem State.setLine_wallSince (s : State) (i : LineId) (x : Line) (n' : Nat) : (s.setLine i x).wallSince n' = s.wallSince n' := rfl
@[simp] theorem State.setLine_wallLow (s : State) (i : LineId) (x : Line) : (s.setLine i x).wallLow = s.wallLow := rfl
@[simp] theorem State.setLine_handedRequest (s : State) (i : LineId) (x : Line) (p' : Port) (k' : ReqKind) : (s.setLine i x).handedRequest p' k' = s.handedRequest p' k' := rfl

/-! ### setGroup -/

@[simp] theorem State.setGroup_inReset (s : State) (g : GroupId) (x : Group) : (s.setGroup g x).inReset = s.inReset := rfl
@[simp] theorem State.setGroup_resetSeenLow (s : State) (g : GroupId) (x : Group) : (s.setGroup g x).resetSeenLow = s.resetSeenLow := rfl
@[simp] theorem State.setGroup_tb (s : State) (g : GroupId) (x : Group) : (s.setGroup g x).tb = s.tb := rfl
@[simp] theorem State.setGroup_sched (s : State) (g : GroupId) (x : Group) : (s.setGroup g x).sched = s.sched := rfl
@[simp] theorem State.setGroup_chans (s : State) (g : GroupId) (x : Group) : (s.setGroup g x).chans = s.chans := rfl
@[simp] theorem State.setGroup_leases (s : State) (g : GroupId) (x : Group) : (s.setGroup g x).leases = s.leases := rfl
@[simp] theorem State.setGroup_lines (s : State) (g : GroupId) (x : Group) : (s.setGroup g x).lines = s.lines := rfl
@[simp] theorem State.setGroup_journal (s : State) (g : GroupId) (x : Group) : (s.setGroup g x).journal = s.journal := rfl
@[simp] theorem State.setGroup_ports (s : State) (g : GroupId) (x : Group) : (s.setGroup g x).ports = s.ports := rfl
@[simp] theorem State.setGroup_queues (s : State) (g : GroupId) (x : Group) : (s.setGroup g x).queues = s.queues := rfl
@[simp] theorem State.setGroup_posts (s : State) (g : GroupId) (x : Group) : (s.setGroup g x).posts = s.posts := rfl
@[simp] theorem State.setGroup_offers (s : State) (g : GroupId) (x : Group) : (s.setGroup g x).offers = s.offers := rfl
@[simp] theorem State.setGroup_lineMsgs (s : State) (g : GroupId) (x : Group) : (s.setGroup g x).lineMsgs = s.lineMsgs := rfl
@[simp] theorem State.setGroup_lockMsgs (s : State) (g : GroupId) (x : Group) : (s.setGroup g x).lockMsgs = s.lockMsgs := rfl
@[simp] theorem State.setGroup_clocks (s : State) (g : GroupId) (x : Group) : (s.setGroup g x).clocks = s.clocks := rfl
@[simp] theorem State.setGroup_pending (s : State) (g : GroupId) (x : Group) : (s.setGroup g x).pending = s.pending := rfl
@[simp] theorem State.setGroup_chan (s : State) (g : GroupId) (x : Group) (c' : Chan) : (s.setGroup g x).chan c' = s.chan c' := rfl
@[simp] theorem State.setGroup_lease (s : State) (g : GroupId) (x : Group) (r' : ResId) : (s.setGroup g x).lease r' = s.lease r' := rfl
@[simp] theorem State.setGroup_line (s : State) (g : GroupId) (x : Group) (i' : LineId) : (s.setGroup g x).line i' = s.line i' := rfl
@[simp] theorem State.setGroup_port (s : State) (g : GroupId) (x : Group) (p' : Port) : (s.setGroup g x).port p' = s.port p' := rfl
@[simp] theorem State.setGroup_queue (s : State) (g : GroupId) (x : Group) (p' : Port) : (s.setGroup g x).queue p' = s.queue p' := rfl
@[simp] theorem State.setGroup_sub (s : State) (g : GroupId) (x : Group) (p' : Port) : (s.setGroup g x).sub p' = s.sub p' := rfl
@[simp] theorem State.setGroup_clock (s : State) (g : GroupId) (x : Group) (a' : Agent) : (s.setGroup g x).clock a' = s.clock a' := rfl
@[simp] theorem State.setGroup_holder (s : State) (g : GroupId) (x : Group) (r' : ResId) : (s.setGroup g x).holder r' = s.holder r' := rfl
@[simp] theorem State.setGroup_chanHolder (s : State) (g : GroupId) (x : Group) (c' : Chan) : (s.setGroup g x).chanHolder c' = s.chanHolder c' := rfl
@[simp] theorem State.setGroup_isCoordinator (s : State) (g : GroupId) (x : Group) (p' : Port) : (s.setGroup g x).isCoordinator p' = s.isCoordinator p' := rfl
@[simp] theorem State.setGroup_session (s : State) (g : GroupId) (x : Group) (p' : Port) : (s.setGroup g x).session p' = s.session p' := rfl
@[simp] theorem State.setGroup_isOpen (s : State) (g : GroupId) (x : Group) (p' : Port) : (s.setGroup g x).isOpen p' = s.isOpen p' := rfl
@[simp] theorem State.setGroup_isClosing (s : State) (g : GroupId) (x : Group) (p' : Port) : (s.setGroup g x).isClosing p' = s.isClosing p' := rfl
@[simp] theorem State.setGroup_openPorts (s : State) (g : GroupId) (x : Group) : (s.setGroup g x).openPorts = s.openPorts := rfl
@[simp] theorem State.setGroup_wallSince (s : State) (g : GroupId) (x : Group) (n' : Nat) : (s.setGroup g x).wallSince n' = s.wallSince n' := rfl
@[simp] theorem State.setGroup_wallLow (s : State) (g : GroupId) (x : Group) : (s.setGroup g x).wallLow = s.wallLow := rfl
@[simp] theorem State.setGroup_handedRequest (s : State) (g : GroupId) (x : Group) (p' : Port) (k' : ReqKind) : (s.setGroup g x).handedRequest p' k' = s.handedRequest p' k' := rfl

/-! ### setPort -/

@[simp] theorem State.setPort_inReset (s : State) (p : Port) (x : PortRec) : (s.setPort p x).inReset = s.inReset := rfl
@[simp] theorem State.setPort_resetSeenLow (s : State) (p : Port) (x : PortRec) : (s.setPort p x).resetSeenLow = s.resetSeenLow := rfl
@[simp] theorem State.setPort_tb (s : State) (p : Port) (x : PortRec) : (s.setPort p x).tb = s.tb := rfl
@[simp] theorem State.setPort_sched (s : State) (p : Port) (x : PortRec) : (s.setPort p x).sched = s.sched := rfl
@[simp] theorem State.setPort_chans (s : State) (p : Port) (x : PortRec) : (s.setPort p x).chans = s.chans := rfl
@[simp] theorem State.setPort_leases (s : State) (p : Port) (x : PortRec) : (s.setPort p x).leases = s.leases := rfl
@[simp] theorem State.setPort_lines (s : State) (p : Port) (x : PortRec) : (s.setPort p x).lines = s.lines := rfl
@[simp] theorem State.setPort_journal (s : State) (p : Port) (x : PortRec) : (s.setPort p x).journal = s.journal := rfl
@[simp] theorem State.setPort_groups (s : State) (p : Port) (x : PortRec) : (s.setPort p x).groups = s.groups := rfl
@[simp] theorem State.setPort_queues (s : State) (p : Port) (x : PortRec) : (s.setPort p x).queues = s.queues := rfl
@[simp] theorem State.setPort_posts (s : State) (p : Port) (x : PortRec) : (s.setPort p x).posts = s.posts := rfl
@[simp] theorem State.setPort_offers (s : State) (p : Port) (x : PortRec) : (s.setPort p x).offers = s.offers := rfl
@[simp] theorem State.setPort_lineMsgs (s : State) (p : Port) (x : PortRec) : (s.setPort p x).lineMsgs = s.lineMsgs := rfl
@[simp] theorem State.setPort_lockMsgs (s : State) (p : Port) (x : PortRec) : (s.setPort p x).lockMsgs = s.lockMsgs := rfl
@[simp] theorem State.setPort_clocks (s : State) (p : Port) (x : PortRec) : (s.setPort p x).clocks = s.clocks := rfl
@[simp] theorem State.setPort_pending (s : State) (p : Port) (x : PortRec) : (s.setPort p x).pending = s.pending := rfl
@[simp] theorem State.setPort_chan (s : State) (p : Port) (x : PortRec) (c' : Chan) : (s.setPort p x).chan c' = s.chan c' := rfl
@[simp] theorem State.setPort_lease (s : State) (p : Port) (x : PortRec) (r' : ResId) : (s.setPort p x).lease r' = s.lease r' := rfl
@[simp] theorem State.setPort_line (s : State) (p : Port) (x : PortRec) (i' : LineId) : (s.setPort p x).line i' = s.line i' := rfl
@[simp] theorem State.setPort_group (s : State) (p : Port) (x : PortRec) (g' : GroupId) : (s.setPort p x).group g' = s.group g' := rfl
@[simp] theorem State.setPort_queue (s : State) (p : Port) (x : PortRec) (p' : Port) : (s.setPort p x).queue p' = s.queue p' := rfl
@[simp] theorem State.setPort_sub (s : State) (p : Port) (x : PortRec) (p' : Port) : (s.setPort p x).sub p' = s.sub p' := rfl
@[simp] theorem State.setPort_clock (s : State) (p : Port) (x : PortRec) (a' : Agent) : (s.setPort p x).clock a' = s.clock a' := rfl
@[simp] theorem State.setPort_holder (s : State) (p : Port) (x : PortRec) (r' : ResId) : (s.setPort p x).holder r' = s.holder r' := rfl
@[simp] theorem State.setPort_chanHolder (s : State) (p : Port) (x : PortRec) (c' : Chan) : (s.setPort p x).chanHolder c' = s.chanHolder c' := rfl
@[simp] theorem State.setPort_isCoordinator (s : State) (p : Port) (x : PortRec) (p' : Port) : (s.setPort p x).isCoordinator p' = s.isCoordinator p' := rfl
@[simp] theorem State.setPort_wallSince (s : State) (p : Port) (x : PortRec) (n' : Nat) : (s.setPort p x).wallSince n' = s.wallSince n' := rfl
@[simp] theorem State.setPort_wallLow (s : State) (p : Port) (x : PortRec) : (s.setPort p x).wallLow = s.wallLow := rfl

/-! ### setQueue -/

@[simp] theorem State.setQueue_inReset (s : State) (p : Port) (x : NoticeQueue) : (s.setQueue p x).inReset = s.inReset := rfl
@[simp] theorem State.setQueue_resetSeenLow (s : State) (p : Port) (x : NoticeQueue) : (s.setQueue p x).resetSeenLow = s.resetSeenLow := rfl
@[simp] theorem State.setQueue_tb (s : State) (p : Port) (x : NoticeQueue) : (s.setQueue p x).tb = s.tb := rfl
@[simp] theorem State.setQueue_sched (s : State) (p : Port) (x : NoticeQueue) : (s.setQueue p x).sched = s.sched := rfl
@[simp] theorem State.setQueue_chans (s : State) (p : Port) (x : NoticeQueue) : (s.setQueue p x).chans = s.chans := rfl
@[simp] theorem State.setQueue_leases (s : State) (p : Port) (x : NoticeQueue) : (s.setQueue p x).leases = s.leases := rfl
@[simp] theorem State.setQueue_lines (s : State) (p : Port) (x : NoticeQueue) : (s.setQueue p x).lines = s.lines := rfl
@[simp] theorem State.setQueue_journal (s : State) (p : Port) (x : NoticeQueue) : (s.setQueue p x).journal = s.journal := rfl
@[simp] theorem State.setQueue_groups (s : State) (p : Port) (x : NoticeQueue) : (s.setQueue p x).groups = s.groups := rfl
@[simp] theorem State.setQueue_ports (s : State) (p : Port) (x : NoticeQueue) : (s.setQueue p x).ports = s.ports := rfl
@[simp] theorem State.setQueue_posts (s : State) (p : Port) (x : NoticeQueue) : (s.setQueue p x).posts = s.posts := rfl
@[simp] theorem State.setQueue_offers (s : State) (p : Port) (x : NoticeQueue) : (s.setQueue p x).offers = s.offers := rfl
@[simp] theorem State.setQueue_lineMsgs (s : State) (p : Port) (x : NoticeQueue) : (s.setQueue p x).lineMsgs = s.lineMsgs := rfl
@[simp] theorem State.setQueue_lockMsgs (s : State) (p : Port) (x : NoticeQueue) : (s.setQueue p x).lockMsgs = s.lockMsgs := rfl
@[simp] theorem State.setQueue_clocks (s : State) (p : Port) (x : NoticeQueue) : (s.setQueue p x).clocks = s.clocks := rfl
@[simp] theorem State.setQueue_pending (s : State) (p : Port) (x : NoticeQueue) : (s.setQueue p x).pending = s.pending := rfl
@[simp] theorem State.setQueue_chan (s : State) (p : Port) (x : NoticeQueue) (c' : Chan) : (s.setQueue p x).chan c' = s.chan c' := rfl
@[simp] theorem State.setQueue_lease (s : State) (p : Port) (x : NoticeQueue) (r' : ResId) : (s.setQueue p x).lease r' = s.lease r' := rfl
@[simp] theorem State.setQueue_line (s : State) (p : Port) (x : NoticeQueue) (i' : LineId) : (s.setQueue p x).line i' = s.line i' := rfl
@[simp] theorem State.setQueue_group (s : State) (p : Port) (x : NoticeQueue) (g' : GroupId) : (s.setQueue p x).group g' = s.group g' := rfl
@[simp] theorem State.setQueue_port (s : State) (p : Port) (x : NoticeQueue) (p' : Port) : (s.setQueue p x).port p' = s.port p' := rfl
@[simp] theorem State.setQueue_sub (s : State) (p : Port) (x : NoticeQueue) (p' : Port) : (s.setQueue p x).sub p' = s.sub p' := rfl
@[simp] theorem State.setQueue_clock (s : State) (p : Port) (x : NoticeQueue) (a' : Agent) : (s.setQueue p x).clock a' = s.clock a' := rfl
@[simp] theorem State.setQueue_holder (s : State) (p : Port) (x : NoticeQueue) (r' : ResId) : (s.setQueue p x).holder r' = s.holder r' := rfl
@[simp] theorem State.setQueue_chanHolder (s : State) (p : Port) (x : NoticeQueue) (c' : Chan) : (s.setQueue p x).chanHolder c' = s.chanHolder c' := rfl
@[simp] theorem State.setQueue_isCoordinator (s : State) (p : Port) (x : NoticeQueue) (p' : Port) : (s.setQueue p x).isCoordinator p' = s.isCoordinator p' := rfl
@[simp] theorem State.setQueue_session (s : State) (p : Port) (x : NoticeQueue) (p' : Port) : (s.setQueue p x).session p' = s.session p' := rfl
@[simp] theorem State.setQueue_isOpen (s : State) (p : Port) (x : NoticeQueue) (p' : Port) : (s.setQueue p x).isOpen p' = s.isOpen p' := rfl
@[simp] theorem State.setQueue_isClosing (s : State) (p : Port) (x : NoticeQueue) (p' : Port) : (s.setQueue p x).isClosing p' = s.isClosing p' := rfl
@[simp] theorem State.setQueue_openPorts (s : State) (p : Port) (x : NoticeQueue) : (s.setQueue p x).openPorts = s.openPorts := rfl
@[simp] theorem State.setQueue_wallSince (s : State) (p : Port) (x : NoticeQueue) (n' : Nat) : (s.setQueue p x).wallSince n' = s.wallSince n' := rfl
@[simp] theorem State.setQueue_wallLow (s : State) (p : Port) (x : NoticeQueue) : (s.setQueue p x).wallLow = s.wallLow := rfl
@[simp] theorem State.setQueue_handedRequest (s : State) (p : Port) (x : NoticeQueue) (p' : Port) (k' : ReqKind) : (s.setQueue p x).handedRequest p' k' = s.handedRequest p' k' := rfl

/-! ### setSub -/

@[simp] theorem State.setSub_inReset (s : State) (p : Port) (x : Option Subscription) : (s.setSub p x).inReset = s.inReset := rfl
@[simp] theorem State.setSub_resetSeenLow (s : State) (p : Port) (x : Option Subscription) : (s.setSub p x).resetSeenLow = s.resetSeenLow := rfl
@[simp] theorem State.setSub_tb (s : State) (p : Port) (x : Option Subscription) : (s.setSub p x).tb = s.tb := rfl
@[simp] theorem State.setSub_sched (s : State) (p : Port) (x : Option Subscription) : (s.setSub p x).sched = s.sched := rfl
@[simp] theorem State.setSub_chans (s : State) (p : Port) (x : Option Subscription) : (s.setSub p x).chans = s.chans := rfl
@[simp] theorem State.setSub_leases (s : State) (p : Port) (x : Option Subscription) : (s.setSub p x).leases = s.leases := rfl
@[simp] theorem State.setSub_lines (s : State) (p : Port) (x : Option Subscription) : (s.setSub p x).lines = s.lines := rfl
@[simp] theorem State.setSub_groups (s : State) (p : Port) (x : Option Subscription) : (s.setSub p x).groups = s.groups := rfl
@[simp] theorem State.setSub_ports (s : State) (p : Port) (x : Option Subscription) : (s.setSub p x).ports = s.ports := rfl
@[simp] theorem State.setSub_queues (s : State) (p : Port) (x : Option Subscription) : (s.setSub p x).queues = s.queues := rfl
@[simp] theorem State.setSub_posts (s : State) (p : Port) (x : Option Subscription) : (s.setSub p x).posts = s.posts := rfl
@[simp] theorem State.setSub_offers (s : State) (p : Port) (x : Option Subscription) : (s.setSub p x).offers = s.offers := rfl
@[simp] theorem State.setSub_lineMsgs (s : State) (p : Port) (x : Option Subscription) : (s.setSub p x).lineMsgs = s.lineMsgs := rfl
@[simp] theorem State.setSub_lockMsgs (s : State) (p : Port) (x : Option Subscription) : (s.setSub p x).lockMsgs = s.lockMsgs := rfl
@[simp] theorem State.setSub_clocks (s : State) (p : Port) (x : Option Subscription) : (s.setSub p x).clocks = s.clocks := rfl
@[simp] theorem State.setSub_pending (s : State) (p : Port) (x : Option Subscription) : (s.setSub p x).pending = s.pending := rfl
@[simp] theorem State.setSub_chan (s : State) (p : Port) (x : Option Subscription) (c' : Chan) : (s.setSub p x).chan c' = s.chan c' := rfl
@[simp] theorem State.setSub_lease (s : State) (p : Port) (x : Option Subscription) (r' : ResId) : (s.setSub p x).lease r' = s.lease r' := rfl
@[simp] theorem State.setSub_line (s : State) (p : Port) (x : Option Subscription) (i' : LineId) : (s.setSub p x).line i' = s.line i' := rfl
@[simp] theorem State.setSub_group (s : State) (p : Port) (x : Option Subscription) (g' : GroupId) : (s.setSub p x).group g' = s.group g' := rfl
@[simp] theorem State.setSub_port (s : State) (p : Port) (x : Option Subscription) (p' : Port) : (s.setSub p x).port p' = s.port p' := rfl
@[simp] theorem State.setSub_queue (s : State) (p : Port) (x : Option Subscription) (p' : Port) : (s.setSub p x).queue p' = s.queue p' := rfl
@[simp] theorem State.setSub_clock (s : State) (p : Port) (x : Option Subscription) (a' : Agent) : (s.setSub p x).clock a' = s.clock a' := rfl
@[simp] theorem State.setSub_holder (s : State) (p : Port) (x : Option Subscription) (r' : ResId) : (s.setSub p x).holder r' = s.holder r' := rfl
@[simp] theorem State.setSub_chanHolder (s : State) (p : Port) (x : Option Subscription) (c' : Chan) : (s.setSub p x).chanHolder c' = s.chanHolder c' := rfl
@[simp] theorem State.setSub_isCoordinator (s : State) (p : Port) (x : Option Subscription) (p' : Port) : (s.setSub p x).isCoordinator p' = s.isCoordinator p' := rfl
@[simp] theorem State.setSub_session (s : State) (p : Port) (x : Option Subscription) (p' : Port) : (s.setSub p x).session p' = s.session p' := rfl
@[simp] theorem State.setSub_isOpen (s : State) (p : Port) (x : Option Subscription) (p' : Port) : (s.setSub p x).isOpen p' = s.isOpen p' := rfl
@[simp] theorem State.setSub_isClosing (s : State) (p : Port) (x : Option Subscription) (p' : Port) : (s.setSub p x).isClosing p' = s.isClosing p' := rfl
@[simp] theorem State.setSub_openPorts (s : State) (p : Port) (x : Option Subscription) : (s.setSub p x).openPorts = s.openPorts := rfl
@[simp] theorem State.setSub_wallSince (s : State) (p : Port) (x : Option Subscription) (n' : Nat) : (s.setSub p x).wallSince n' = s.wallSince n' := rfl
@[simp] theorem State.setSub_wallLow (s : State) (p : Port) (x : Option Subscription) : (s.setSub p x).wallLow = s.wallLow := rfl
@[simp] theorem State.setSub_handedRequest (s : State) (p : Port) (x : Option Subscription) (p' : Port) (k' : ReqKind) : (s.setSub p x).handedRequest p' k' = s.handedRequest p' k' := rfl

/-! ### hear -/

@[simp] theorem State.hear_inReset (s : State) (a : Agent) (k : Clock) : (s.hear a k).inReset = s.inReset := rfl
@[simp] theorem State.hear_resetSeenLow (s : State) (a : Agent) (k : Clock) : (s.hear a k).resetSeenLow = s.resetSeenLow := rfl
@[simp] theorem State.hear_tb (s : State) (a : Agent) (k : Clock) : (s.hear a k).tb = s.tb := rfl
@[simp] theorem State.hear_sched (s : State) (a : Agent) (k : Clock) : (s.hear a k).sched = s.sched := rfl
@[simp] theorem State.hear_chans (s : State) (a : Agent) (k : Clock) : (s.hear a k).chans = s.chans := rfl
@[simp] theorem State.hear_leases (s : State) (a : Agent) (k : Clock) : (s.hear a k).leases = s.leases := rfl
@[simp] theorem State.hear_lines (s : State) (a : Agent) (k : Clock) : (s.hear a k).lines = s.lines := rfl
@[simp] theorem State.hear_journal (s : State) (a : Agent) (k : Clock) : (s.hear a k).journal = s.journal := rfl
@[simp] theorem State.hear_groups (s : State) (a : Agent) (k : Clock) : (s.hear a k).groups = s.groups := rfl
@[simp] theorem State.hear_ports (s : State) (a : Agent) (k : Clock) : (s.hear a k).ports = s.ports := rfl
@[simp] theorem State.hear_queues (s : State) (a : Agent) (k : Clock) : (s.hear a k).queues = s.queues := rfl
@[simp] theorem State.hear_posts (s : State) (a : Agent) (k : Clock) : (s.hear a k).posts = s.posts := rfl
@[simp] theorem State.hear_offers (s : State) (a : Agent) (k : Clock) : (s.hear a k).offers = s.offers := rfl
@[simp] theorem State.hear_lineMsgs (s : State) (a : Agent) (k : Clock) : (s.hear a k).lineMsgs = s.lineMsgs := rfl
@[simp] theorem State.hear_lockMsgs (s : State) (a : Agent) (k : Clock) : (s.hear a k).lockMsgs = s.lockMsgs := rfl
@[simp] theorem State.hear_pending (s : State) (a : Agent) (k : Clock) : (s.hear a k).pending = s.pending := rfl
@[simp] theorem State.hear_chan (s : State) (a : Agent) (k : Clock) (c' : Chan) : (s.hear a k).chan c' = s.chan c' := rfl
@[simp] theorem State.hear_lease (s : State) (a : Agent) (k : Clock) (r' : ResId) : (s.hear a k).lease r' = s.lease r' := rfl
@[simp] theorem State.hear_line (s : State) (a : Agent) (k : Clock) (i' : LineId) : (s.hear a k).line i' = s.line i' := rfl
@[simp] theorem State.hear_group (s : State) (a : Agent) (k : Clock) (g' : GroupId) : (s.hear a k).group g' = s.group g' := rfl
@[simp] theorem State.hear_port (s : State) (a : Agent) (k : Clock) (p' : Port) : (s.hear a k).port p' = s.port p' := rfl
@[simp] theorem State.hear_queue (s : State) (a : Agent) (k : Clock) (p' : Port) : (s.hear a k).queue p' = s.queue p' := rfl
@[simp] theorem State.hear_sub (s : State) (a : Agent) (k : Clock) (p' : Port) : (s.hear a k).sub p' = s.sub p' := rfl
@[simp] theorem State.hear_holder (s : State) (a : Agent) (k : Clock) (r' : ResId) : (s.hear a k).holder r' = s.holder r' := rfl
@[simp] theorem State.hear_chanHolder (s : State) (a : Agent) (k : Clock) (c' : Chan) : (s.hear a k).chanHolder c' = s.chanHolder c' := rfl
@[simp] theorem State.hear_isCoordinator (s : State) (a : Agent) (k : Clock) (p' : Port) : (s.hear a k).isCoordinator p' = s.isCoordinator p' := rfl
@[simp] theorem State.hear_session (s : State) (a : Agent) (k : Clock) (p' : Port) : (s.hear a k).session p' = s.session p' := rfl
@[simp] theorem State.hear_isOpen (s : State) (a : Agent) (k : Clock) (p' : Port) : (s.hear a k).isOpen p' = s.isOpen p' := rfl
@[simp] theorem State.hear_isClosing (s : State) (a : Agent) (k : Clock) (p' : Port) : (s.hear a k).isClosing p' = s.isClosing p' := rfl
@[simp] theorem State.hear_openPorts (s : State) (a : Agent) (k : Clock) : (s.hear a k).openPorts = s.openPorts := rfl
@[simp] theorem State.hear_wallSince (s : State) (a : Agent) (k : Clock) (n' : Nat) : (s.hear a k).wallSince n' = s.wallSince n' := rfl
@[simp] theorem State.hear_wallLow (s : State) (a : Agent) (k : Clock) : (s.hear a k).wallLow = s.wallLow := rfl
@[simp] theorem State.hear_handedRequest (s : State) (a : Agent) (k : Clock) (p' : Port) (k' : ReqKind) : (s.hear a k).handedRequest p' k' = s.handedRequest p' k' := rfl

/-! ### post -/

@[simp] theorem State.post_inReset (s : State) (b : PostBlock) (p : Port) (n : Notice) : (s.post b p n).inReset = s.inReset := rfl
@[simp] theorem State.post_resetSeenLow (s : State) (b : PostBlock) (p : Port) (n : Notice) : (s.post b p n).resetSeenLow = s.resetSeenLow := rfl
@[simp] theorem State.post_tb (s : State) (b : PostBlock) (p : Port) (n : Notice) : (s.post b p n).tb = s.tb := rfl
@[simp] theorem State.post_sched (s : State) (b : PostBlock) (p : Port) (n : Notice) : (s.post b p n).sched = s.sched := rfl
@[simp] theorem State.post_chans (s : State) (b : PostBlock) (p : Port) (n : Notice) : (s.post b p n).chans = s.chans := rfl
@[simp] theorem State.post_leases (s : State) (b : PostBlock) (p : Port) (n : Notice) : (s.post b p n).leases = s.leases := rfl
@[simp] theorem State.post_lines (s : State) (b : PostBlock) (p : Port) (n : Notice) : (s.post b p n).lines = s.lines := rfl
@[simp] theorem State.post_journal (s : State) (b : PostBlock) (p : Port) (n : Notice) : (s.post b p n).journal = s.journal := rfl
@[simp] theorem State.post_groups (s : State) (b : PostBlock) (p : Port) (n : Notice) : (s.post b p n).groups = s.groups := rfl
@[simp] theorem State.post_ports (s : State) (b : PostBlock) (p : Port) (n : Notice) : (s.post b p n).ports = s.ports := rfl
@[simp] theorem State.post_queues (s : State) (b : PostBlock) (p : Port) (n : Notice) : (s.post b p n).queues = s.queues := rfl
@[simp] theorem State.post_offers (s : State) (b : PostBlock) (p : Port) (n : Notice) : (s.post b p n).offers = s.offers := rfl
@[simp] theorem State.post_lineMsgs (s : State) (b : PostBlock) (p : Port) (n : Notice) : (s.post b p n).lineMsgs = s.lineMsgs := rfl
@[simp] theorem State.post_lockMsgs (s : State) (b : PostBlock) (p : Port) (n : Notice) : (s.post b p n).lockMsgs = s.lockMsgs := rfl
@[simp] theorem State.post_pending (s : State) (b : PostBlock) (p : Port) (n : Notice) : (s.post b p n).pending = s.pending := rfl
@[simp] theorem State.post_chan (s : State) (b : PostBlock) (p : Port) (n : Notice) (c' : Chan) : (s.post b p n).chan c' = s.chan c' := rfl
@[simp] theorem State.post_lease (s : State) (b : PostBlock) (p : Port) (n : Notice) (r' : ResId) : (s.post b p n).lease r' = s.lease r' := rfl
@[simp] theorem State.post_line (s : State) (b : PostBlock) (p : Port) (n : Notice) (i' : LineId) : (s.post b p n).line i' = s.line i' := rfl
@[simp] theorem State.post_group (s : State) (b : PostBlock) (p : Port) (n : Notice) (g' : GroupId) : (s.post b p n).group g' = s.group g' := rfl
@[simp] theorem State.post_port (s : State) (b : PostBlock) (p : Port) (n : Notice) (p' : Port) : (s.post b p n).port p' = s.port p' := rfl
@[simp] theorem State.post_queue (s : State) (b : PostBlock) (p : Port) (n : Notice) (p' : Port) : (s.post b p n).queue p' = s.queue p' := rfl
@[simp] theorem State.post_sub (s : State) (b : PostBlock) (p : Port) (n : Notice) (p' : Port) : (s.post b p n).sub p' = s.sub p' := rfl
@[simp] theorem State.post_holder (s : State) (b : PostBlock) (p : Port) (n : Notice) (r' : ResId) : (s.post b p n).holder r' = s.holder r' := rfl
@[simp] theorem State.post_chanHolder (s : State) (b : PostBlock) (p : Port) (n : Notice) (c' : Chan) : (s.post b p n).chanHolder c' = s.chanHolder c' := rfl
@[simp] theorem State.post_isCoordinator (s : State) (b : PostBlock) (p : Port) (n : Notice) (p' : Port) : (s.post b p n).isCoordinator p' = s.isCoordinator p' := rfl
@[simp] theorem State.post_session (s : State) (b : PostBlock) (p : Port) (n : Notice) (p' : Port) : (s.post b p n).session p' = s.session p' := rfl
@[simp] theorem State.post_isOpen (s : State) (b : PostBlock) (p : Port) (n : Notice) (p' : Port) : (s.post b p n).isOpen p' = s.isOpen p' := rfl
@[simp] theorem State.post_isClosing (s : State) (b : PostBlock) (p : Port) (n : Notice) (p' : Port) : (s.post b p n).isClosing p' = s.isClosing p' := rfl
@[simp] theorem State.post_openPorts (s : State) (b : PostBlock) (p : Port) (n : Notice) : (s.post b p n).openPorts = s.openPorts := rfl
@[simp] theorem State.post_wallSince (s : State) (b : PostBlock) (p : Port) (n : Notice) (n' : Nat) : (s.post b p n).wallSince n' = s.wallSince n' := rfl
@[simp] theorem State.post_wallLow (s : State) (b : PostBlock) (p : Port) (n : Notice) : (s.post b p n).wallLow = s.wallLow := rfl
@[simp] theorem State.post_handedRequest (s : State) (b : PostBlock) (p : Port) (n : Notice) (p' : Port) (k' : ReqKind) : (s.post b p n).handedRequest p' k' = s.handedRequest p' k' := rfl

/-! ### clearLatch -/

@[simp] theorem State.clearLatch_inReset (s : State) (p : Port) : (s.clearLatch p).inReset = s.inReset := rfl
@[simp] theorem State.clearLatch_resetSeenLow (s : State) (p : Port) : (s.clearLatch p).resetSeenLow = s.resetSeenLow := rfl
@[simp] theorem State.clearLatch_tb (s : State) (p : Port) : (s.clearLatch p).tb = s.tb := rfl
@[simp] theorem State.clearLatch_sched (s : State) (p : Port) : (s.clearLatch p).sched = s.sched := rfl
@[simp] theorem State.clearLatch_chans (s : State) (p : Port) : (s.clearLatch p).chans = s.chans := rfl
@[simp] theorem State.clearLatch_leases (s : State) (p : Port) : (s.clearLatch p).leases = s.leases := rfl
@[simp] theorem State.clearLatch_lines (s : State) (p : Port) : (s.clearLatch p).lines = s.lines := rfl
@[simp] theorem State.clearLatch_journal (s : State) (p : Port) : (s.clearLatch p).journal = s.journal := rfl
@[simp] theorem State.clearLatch_groups (s : State) (p : Port) : (s.clearLatch p).groups = s.groups := rfl
@[simp] theorem State.clearLatch_ports (s : State) (p : Port) : (s.clearLatch p).ports = s.ports := rfl
@[simp] theorem State.clearLatch_posts (s : State) (p : Port) : (s.clearLatch p).posts = s.posts := rfl
@[simp] theorem State.clearLatch_offers (s : State) (p : Port) : (s.clearLatch p).offers = s.offers := rfl
@[simp] theorem State.clearLatch_lineMsgs (s : State) (p : Port) : (s.clearLatch p).lineMsgs = s.lineMsgs := rfl
@[simp] theorem State.clearLatch_lockMsgs (s : State) (p : Port) : (s.clearLatch p).lockMsgs = s.lockMsgs := rfl
@[simp] theorem State.clearLatch_clocks (s : State) (p : Port) : (s.clearLatch p).clocks = s.clocks := rfl
@[simp] theorem State.clearLatch_pending (s : State) (p : Port) : (s.clearLatch p).pending = s.pending := rfl
@[simp] theorem State.clearLatch_chan (s : State) (p : Port) (c' : Chan) : (s.clearLatch p).chan c' = s.chan c' := rfl
@[simp] theorem State.clearLatch_lease (s : State) (p : Port) (r' : ResId) : (s.clearLatch p).lease r' = s.lease r' := rfl
@[simp] theorem State.clearLatch_line (s : State) (p : Port) (i' : LineId) : (s.clearLatch p).line i' = s.line i' := rfl
@[simp] theorem State.clearLatch_group (s : State) (p : Port) (g' : GroupId) : (s.clearLatch p).group g' = s.group g' := rfl
@[simp] theorem State.clearLatch_port (s : State) (p : Port) (p' : Port) : (s.clearLatch p).port p' = s.port p' := rfl
@[simp] theorem State.clearLatch_sub (s : State) (p : Port) (p' : Port) : (s.clearLatch p).sub p' = s.sub p' := rfl
@[simp] theorem State.clearLatch_clock (s : State) (p : Port) (a' : Agent) : (s.clearLatch p).clock a' = s.clock a' := rfl
@[simp] theorem State.clearLatch_holder (s : State) (p : Port) (r' : ResId) : (s.clearLatch p).holder r' = s.holder r' := rfl
@[simp] theorem State.clearLatch_chanHolder (s : State) (p : Port) (c' : Chan) : (s.clearLatch p).chanHolder c' = s.chanHolder c' := rfl
@[simp] theorem State.clearLatch_isCoordinator (s : State) (p : Port) (p' : Port) : (s.clearLatch p).isCoordinator p' = s.isCoordinator p' := rfl
@[simp] theorem State.clearLatch_session (s : State) (p : Port) (p' : Port) : (s.clearLatch p).session p' = s.session p' := rfl
@[simp] theorem State.clearLatch_isOpen (s : State) (p : Port) (p' : Port) : (s.clearLatch p).isOpen p' = s.isOpen p' := rfl
@[simp] theorem State.clearLatch_isClosing (s : State) (p : Port) (p' : Port) : (s.clearLatch p).isClosing p' = s.isClosing p' := rfl
@[simp] theorem State.clearLatch_openPorts (s : State) (p : Port) : (s.clearLatch p).openPorts = s.openPorts := rfl
@[simp] theorem State.clearLatch_wallSince (s : State) (p : Port) (n' : Nat) : (s.clearLatch p).wallSince n' = s.wallSince n' := rfl
@[simp] theorem State.clearLatch_wallLow (s : State) (p : Port) : (s.clearLatch p).wallLow = s.wallLow := rfl
@[simp] theorem State.clearLatch_handedRequest (s : State) (p : Port) (p' : Port) (k' : ReqKind) : (s.clearLatch p).handedRequest p' k' = s.handedRequest p' k' := rfl

/-! ### Reading back what was written -/

theorem State.chan_setChan (s : State) (c c' : Chan) (x : Channel) :
    (s.setChan c x).chan c' = if c = c' then x else s.chan c' := by
  simp [State.chan, State.setChan, Vector.getElem_set, Fin.ext_iff]

@[simp] theorem State.chan_setChan_self (s : State) (c : Chan) (x : Channel) : (s.setChan c x).chan c = x := by
  simp [State.chan_setChan]

theorem State.chan_setChan_ne (s : State) (c c' : Chan) (x : Channel) (h : c ≠ c') :
    (s.setChan c x).chan c' = s.chan c' := by
  simp [State.chan_setChan, h]

theorem State.lease_setLease (s : State) (r r' : ResId) (x : Lease) :
    (s.setLease r x).lease r' = if r = r' then x else s.lease r' := by
  simp [State.lease, State.setLease, Vector.getElem_set, Fin.ext_iff]

@[simp] theorem State.lease_setLease_self (s : State) (r : ResId) (x : Lease) : (s.setLease r x).lease r = x := by
  simp [State.lease_setLease]

theorem State.lease_setLease_ne (s : State) (r r' : ResId) (x : Lease) (h : r ≠ r') :
    (s.setLease r x).lease r' = s.lease r' := by
  simp [State.lease_setLease, h]

theorem State.line_setLine (s : State) (i i' : LineId) (x : Line) :
    (s.setLine i x).line i' = if i = i' then x else s.line i' := by
  simp [State.line, State.setLine, Vector.getElem_set, Fin.ext_iff]

@[simp] theorem State.line_setLine_self (s : State) (i : LineId) (x : Line) : (s.setLine i x).line i = x := by
  simp [State.line_setLine]

theorem State.line_setLine_ne (s : State) (i i' : LineId) (x : Line) (h : i ≠ i') :
    (s.setLine i x).line i' = s.line i' := by
  simp [State.line_setLine, h]

theorem State.group_setGroup (s : State) (g g' : GroupId) (x : Group) :
    (s.setGroup g x).group g' = if g = g' then x else s.group g' := by
  simp [State.group, State.setGroup, Vector.getElem_set, Fin.ext_iff]

@[simp] theorem State.group_setGroup_self (s : State) (g : GroupId) (x : Group) : (s.setGroup g x).group g = x := by
  simp [State.group_setGroup]

theorem State.group_setGroup_ne (s : State) (g g' : GroupId) (x : Group) (h : g ≠ g') :
    (s.setGroup g x).group g' = s.group g' := by
  simp [State.group_setGroup, h]

theorem State.port_setPort (s : State) (p p' : Port) (x : PortRec) :
    (s.setPort p x).port p' = if p = p' then x else s.port p' := by
  simp [State.port, State.setPort, Vector.getElem_set, Fin.ext_iff]

@[simp] theorem State.port_setPort_self (s : State) (p : Port) (x : PortRec) : (s.setPort p x).port p = x := by
  simp [State.port_setPort]

theorem State.port_setPort_ne (s : State) (p p' : Port) (x : PortRec) (h : p ≠ p') :
    (s.setPort p x).port p' = s.port p' := by
  simp [State.port_setPort, h]

theorem State.queue_setQueue (s : State) (p p' : Port) (x : NoticeQueue) :
    (s.setQueue p x).queue p' = if p = p' then x else s.queue p' := by
  simp [State.queue, State.setQueue, Vector.getElem_set, Fin.ext_iff]

@[simp] theorem State.queue_setQueue_self (s : State) (p : Port) (x : NoticeQueue) : (s.setQueue p x).queue p = x := by
  simp [State.queue_setQueue]

theorem State.queue_setQueue_ne (s : State) (p p' : Port) (x : NoticeQueue) (h : p ≠ p') :
    (s.setQueue p x).queue p' = s.queue p' := by
  simp [State.queue_setQueue, h]

theorem State.sub_setSub (s : State) (p p' : Port) (x : Option Subscription) :
    (s.setSub p x).sub p' = if p = p' then x else s.sub p' := by
  simp [State.sub, State.setSub, Vector.getElem_set, Fin.ext_iff]

@[simp] theorem State.sub_setSub_self (s : State) (p : Port) (x : Option Subscription) : (s.setSub p x).sub p = x := by
  simp [State.sub_setSub]

theorem State.clock_hear (s : State) (a a' : Agent) (k : Clock) :
    (s.hear a k).clock a' = if a.index = a'.index then (s.clock a).join k else s.clock a' := by
  simp [State.clock, State.hear, Vector.getElem_set, Fin.ext_iff]

theorem State.posts_post (s : State) (b : PostBlock) (p : Port) (n : Notice) :
    (s.post b p n).posts = s.posts ++ [⟨b, p, (s.port p).sessions, n, (s.clock (agentOf b)).bump b⟩] := rfl

theorem mapRecords_get {α : Type} {n : Nat} (v : Vector α n) (f : Fin n → α → α) (i : Fin n) :
    (mapRecords v f)[i] = f i v[i] := by
  simp [mapRecords]

/-- Two states are the same when every field is. -/
theorem State.eq_of_fields {s t : State} (h1 : s.inReset = t.inReset) (h2 : s.resetSeenLow = t.resetSeenLow) (h3 : s.tb = t.tb)
    (h4 : s.sched = t.sched) (h5 : s.chans = t.chans) (h6 : s.leases = t.leases) (h7 : s.lines = t.lines)
    (h8 : s.journal = t.journal) (h9 : s.groups = t.groups) (h10 : s.ports = t.ports) (h11 : s.queues = t.queues)
    (h12 : s.posts = t.posts) (h13 : s.offers = t.offers) (h14 : s.lineMsgs = t.lineMsgs) (h15 : s.lockMsgs = t.lockMsgs)
    (h16 : s.clocks = t.clocks) (h17 : s.pending = t.pending) : s = t := by
  cases s
  cases t
  simp_all

end Sys2Proof.Machine
end

