-- ==== Sys2Proof/Laws/Frames.lean ====
section
/-! SUPPORT. What each event leaves as it was: one lemma per event, which names every field of State that the event does not change. -/

namespace Sys2Proof.Machine

@[simp] theorem State.answer_frame (s : State) (p : Port) (a : Answer) (clk : Clock) :
    (s.answer p a clk).inReset = s.inReset ∧ (s.answer p a clk).resetSeenLow = s.resetSeenLow ∧ (s.answer p a clk).tb = s.tb ∧
    (s.answer p a clk).sched = s.sched ∧ (s.answer p a clk).chans = s.chans ∧ (s.answer p a clk).leases = s.leases ∧
    (s.answer p a clk).lines = s.lines ∧ (s.answer p a clk).journal = s.journal ∧ (s.answer p a clk).groups = s.groups ∧
    (s.answer p a clk).queues = s.queues ∧ (s.answer p a clk).posts = s.posts ∧ (s.answer p a clk).offers = s.offers ∧
    (s.answer p a clk).lineMsgs = s.lineMsgs ∧ (s.answer p a clk).lockMsgs = s.lockMsgs ∧
    (s.answer p a clk).clocks = s.clocks ∧ (s.answer p a clk).pending = s.pending := by
  unfold State.answer
  repeat' first | split | dsimp only
  all_goals simp

@[simp] theorem State.postEach_frame (s : State) (b : PostBlock) (n : Notice) (ps : List Port) :
    (s.postEach b n ps).inReset = s.inReset ∧ (s.postEach b n ps).resetSeenLow = s.resetSeenLow ∧
    (s.postEach b n ps).tb = s.tb ∧ (s.postEach b n ps).sched = s.sched ∧ (s.postEach b n ps).chans = s.chans ∧
    (s.postEach b n ps).leases = s.leases ∧ (s.postEach b n ps).lines = s.lines ∧ (s.postEach b n ps).journal = s.journal ∧
    (s.postEach b n ps).groups = s.groups ∧ (s.postEach b n ps).ports = s.ports ∧ (s.postEach b n ps).queues = s.queues ∧
    (s.postEach b n ps).offers = s.offers ∧ (s.postEach b n ps).lineMsgs = s.lineMsgs ∧
    (s.postEach b n ps).lockMsgs = s.lockMsgs ∧ (s.postEach b n ps).pending = s.pending := by
  unfold State.postEach
  induction ps generalizing s with
  | nil => simp
  | cons x ps ih => simpa using ih (s.post b x n)

@[simp] theorem State.postPace_frame (s : State) (before : PaceMode) (cause : PaceCause) :
    (s.postPace before cause).inReset = s.inReset ∧ (s.postPace before cause).resetSeenLow = s.resetSeenLow ∧
    (s.postPace before cause).tb = s.tb ∧ (s.postPace before cause).sched = s.sched ∧
    (s.postPace before cause).chans = s.chans ∧ (s.postPace before cause).leases = s.leases ∧
    (s.postPace before cause).lines = s.lines ∧ (s.postPace before cause).journal = s.journal ∧
    (s.postPace before cause).groups = s.groups ∧ (s.postPace before cause).ports = s.ports ∧
    (s.postPace before cause).queues = s.queues ∧ (s.postPace before cause).offers = s.offers ∧
    (s.postPace before cause).lineMsgs = s.lineMsgs ∧ (s.postPace before cause).lockMsgs = s.lockMsgs ∧
    (s.postPace before cause).pending = s.pending := by
  unfold State.postPace
  repeat' first | split | dsimp only
  all_goals simp

@[simp] theorem State.postTimeEnd_frame (s : State) (before : PaceMode) :
    (s.postTimeEnd before).inReset = s.inReset ∧ (s.postTimeEnd before).resetSeenLow = s.resetSeenLow ∧
    (s.postTimeEnd before).tb = s.tb ∧ (s.postTimeEnd before).sched = s.sched ∧ (s.postTimeEnd before).chans = s.chans ∧
    (s.postTimeEnd before).leases = s.leases ∧ (s.postTimeEnd before).lines = s.lines ∧
    (s.postTimeEnd before).journal = s.journal ∧ (s.postTimeEnd before).groups = s.groups ∧
    (s.postTimeEnd before).ports = s.ports ∧ (s.postTimeEnd before).queues = s.queues ∧
    (s.postTimeEnd before).offers = s.offers ∧ (s.postTimeEnd before).lineMsgs = s.lineMsgs ∧
    (s.postTimeEnd before).lockMsgs = s.lockMsgs ∧ (s.postTimeEnd before).pending = s.pending := by
  unfold State.postTimeEnd
  repeat' first | split | dsimp only
  all_goals simp

@[simp] theorem wallTickEvent_frame (s : State) :
    (wallTickEvent s).inReset = s.inReset ∧ (wallTickEvent s).resetSeenLow = s.resetSeenLow ∧
    (wallTickEvent s).sched = s.sched ∧ (wallTickEvent s).chans = s.chans ∧ (wallTickEvent s).leases = s.leases ∧
    (wallTickEvent s).lines = s.lines ∧ (wallTickEvent s).journal = s.journal ∧ (wallTickEvent s).groups = s.groups ∧
    (wallTickEvent s).ports = s.ports ∧ (wallTickEvent s).queues = s.queues ∧ (wallTickEvent s).posts = s.posts ∧
    (wallTickEvent s).offers = s.offers ∧ (wallTickEvent s).lineMsgs = s.lineMsgs ∧ (wallTickEvent s).lockMsgs = s.lockMsgs ∧
    (wallTickEvent s).clocks = s.clocks ∧ (wallTickEvent s).pending = s.pending := by
  unfold wallTickEvent
  repeat' first | split | dsimp only
  all_goals simp

@[simp] theorem machineTickEvent_frame (s : State) :
    (machineTickEvent s).inReset = s.inReset ∧ (machineTickEvent s).resetSeenLow = s.resetSeenLow ∧
    (machineTickEvent s).leases = s.leases ∧ (machineTickEvent s).lines = s.lines ∧ (machineTickEvent s).journal = s.journal ∧
    (machineTickEvent s).groups = s.groups ∧ (machineTickEvent s).ports = s.ports ∧ (machineTickEvent s).queues = s.queues ∧
    (machineTickEvent s).posts = s.posts ∧ (machineTickEvent s).offers = s.offers ∧
    (machineTickEvent s).lineMsgs = s.lineMsgs ∧ (machineTickEvent s).lockMsgs = s.lockMsgs ∧
    (machineTickEvent s).clocks = s.clocks ∧ (machineTickEvent s).pending = s.pending := by
  unfold machineTickEvent
  repeat' first | split | dsimp only
  all_goals simp

@[simp] theorem stepBoundaryEvent_frame (s : State) :
    (stepBoundaryEvent s).inReset = s.inReset ∧ (stepBoundaryEvent s).resetSeenLow = s.resetSeenLow ∧
    (stepBoundaryEvent s).sched = s.sched ∧ (stepBoundaryEvent s).chans = s.chans ∧ (stepBoundaryEvent s).leases = s.leases ∧
    (stepBoundaryEvent s).lines = s.lines ∧ (stepBoundaryEvent s).journal = s.journal ∧
    (stepBoundaryEvent s).groups = s.groups ∧ (stepBoundaryEvent s).ports = s.ports ∧ (stepBoundaryEvent s).queues = s.queues ∧
    (stepBoundaryEvent s).offers = s.offers ∧ (stepBoundaryEvent s).lineMsgs = s.lineMsgs ∧
    (stepBoundaryEvent s).lockMsgs = s.lockMsgs ∧ (stepBoundaryEvent s).pending = s.pending := by
  unfold stepBoundaryEvent
  repeat' first | split | dsimp only
  all_goals simp

@[simp] theorem creepHoldStartEvent_frame (s : State) :
    (creepHoldStartEvent s).inReset = s.inReset ∧ (creepHoldStartEvent s).resetSeenLow = s.resetSeenLow ∧
    (creepHoldStartEvent s).sched = s.sched ∧ (creepHoldStartEvent s).chans = s.chans ∧
    (creepHoldStartEvent s).leases = s.leases ∧ (creepHoldStartEvent s).lines = s.lines ∧
    (creepHoldStartEvent s).journal = s.journal ∧ (creepHoldStartEvent s).groups = s.groups ∧
    (creepHoldStartEvent s).ports = s.ports ∧ (creepHoldStartEvent s).queues = s.queues ∧
    (creepHoldStartEvent s).posts = s.posts ∧ (creepHoldStartEvent s).offers = s.offers ∧
    (creepHoldStartEvent s).lineMsgs = s.lineMsgs ∧ (creepHoldStartEvent s).lockMsgs = s.lockMsgs ∧
    (creepHoldStartEvent s).clocks = s.clocks ∧ (creepHoldStartEvent s).pending = s.pending := by
  unfold creepHoldStartEvent
  repeat' first | split | dsimp only
  all_goals simp

@[simp] theorem creepHoldEndEvent_frame (s : State) :
    (creepHoldEndEvent s).inReset = s.inReset ∧ (creepHoldEndEvent s).resetSeenLow = s.resetSeenLow ∧
    (creepHoldEndEvent s).sched = s.sched ∧ (creepHoldEndEvent s).chans = s.chans ∧ (creepHoldEndEvent s).leases = s.leases ∧
    (creepHoldEndEvent s).lines = s.lines ∧ (creepHoldEndEvent s).journal = s.journal ∧
    (creepHoldEndEvent s).groups = s.groups ∧ (creepHoldEndEvent s).ports = s.ports ∧ (creepHoldEndEvent s).queues = s.queues ∧
    (creepHoldEndEvent s).posts = s.posts ∧ (creepHoldEndEvent s).offers = s.offers ∧
    (creepHoldEndEvent s).lineMsgs = s.lineMsgs ∧ (creepHoldEndEvent s).lockMsgs = s.lockMsgs ∧
    (creepHoldEndEvent s).clocks = s.clocks ∧ (creepHoldEndEvent s).pending = s.pending := by
  unfold creepHoldEndEvent
  repeat' first | split | dsimp only
  all_goals simp

@[simp] theorem timeEndEvent_frame (s : State) :
    (timeEndEvent s).inReset = s.inReset ∧ (timeEndEvent s).resetSeenLow = s.resetSeenLow ∧ (timeEndEvent s).sched = s.sched ∧
    (timeEndEvent s).chans = s.chans ∧ (timeEndEvent s).leases = s.leases ∧ (timeEndEvent s).lines = s.lines ∧
    (timeEndEvent s).journal = s.journal ∧ (timeEndEvent s).groups = s.groups ∧ (timeEndEvent s).ports = s.ports ∧
    (timeEndEvent s).queues = s.queues ∧ (timeEndEvent s).offers = s.offers ∧ (timeEndEvent s).lineMsgs = s.lineMsgs ∧
    (timeEndEvent s).lockMsgs = s.lockMsgs ∧ (timeEndEvent s).pending = s.pending := by
  unfold timeEndEvent
  repeat' first | split | dsimp only
  all_goals simp

@[simp] theorem clockPeriod_frame (s : State) :
    (clockPeriod s).inReset = s.inReset ∧ (clockPeriod s).resetSeenLow = s.resetSeenLow ∧ (clockPeriod s).sched = s.sched ∧
    (clockPeriod s).chans = s.chans ∧ (clockPeriod s).leases = s.leases ∧ (clockPeriod s).journal = s.journal ∧
    (clockPeriod s).groups = s.groups ∧ (clockPeriod s).ports = s.ports ∧ (clockPeriod s).queues = s.queues ∧
    (clockPeriod s).posts = s.posts ∧ (clockPeriod s).offers = s.offers ∧ (clockPeriod s).lineMsgs = s.lineMsgs ∧
    (clockPeriod s).lockMsgs = s.lockMsgs ∧ (clockPeriod s).clocks = s.clocks ∧ (clockPeriod s).pending = s.pending := by
  unfold clockPeriod
  repeat' first | split | dsimp only
  all_goals simp

@[simp] theorem paceRequest_frame (s : State) (p : Port) (payload : List Byte) :
    (paceRequest p payload s).1.inReset = s.inReset ∧ (paceRequest p payload s).1.resetSeenLow = s.resetSeenLow ∧
    (paceRequest p payload s).1.sched = s.sched ∧ (paceRequest p payload s).1.chans = s.chans ∧
    (paceRequest p payload s).1.leases = s.leases ∧ (paceRequest p payload s).1.lines = s.lines ∧
    (paceRequest p payload s).1.journal = s.journal ∧ (paceRequest p payload s).1.groups = s.groups ∧
    (paceRequest p payload s).1.ports = s.ports ∧ (paceRequest p payload s).1.queues = s.queues ∧
    (paceRequest p payload s).1.offers = s.offers ∧ (paceRequest p payload s).1.lineMsgs = s.lineMsgs ∧
    (paceRequest p payload s).1.lockMsgs = s.lockMsgs ∧ (paceRequest p payload s).1.pending = s.pending := by
  unfold paceRequest
  repeat' first | split | dsimp only
  all_goals simp

@[simp] theorem setclockRequest_frame (s : State) (p : Port) (payload : List Byte) :
    (setclockRequest p payload s).1.inReset = s.inReset ∧ (setclockRequest p payload s).1.resetSeenLow = s.resetSeenLow ∧
    (setclockRequest p payload s).1.sched = s.sched ∧ (setclockRequest p payload s).1.chans = s.chans ∧
    (setclockRequest p payload s).1.leases = s.leases ∧ (setclockRequest p payload s).1.lines = s.lines ∧
    (setclockRequest p payload s).1.journal = s.journal ∧ (setclockRequest p payload s).1.groups = s.groups ∧
    (setclockRequest p payload s).1.ports = s.ports ∧ (setclockRequest p payload s).1.queues = s.queues ∧
    (setclockRequest p payload s).1.posts = s.posts ∧ (setclockRequest p payload s).1.offers = s.offers ∧
    (setclockRequest p payload s).1.lineMsgs = s.lineMsgs ∧ (setclockRequest p payload s).1.lockMsgs = s.lockMsgs ∧
    (setclockRequest p payload s).1.clocks = s.clocks ∧ (setclockRequest p payload s).1.pending = s.pending := by
  unfold setclockRequest
  repeat' first | split | dsimp only
  all_goals simp

@[simp] theorem settimeRequest_frame (s : State) (p : Port) (payload : List Byte) :
    (settimeRequest p payload s).1.inReset = s.inReset ∧ (settimeRequest p payload s).1.resetSeenLow = s.resetSeenLow ∧
    (settimeRequest p payload s).1.sched = s.sched ∧ (settimeRequest p payload s).1.chans = s.chans ∧
    (settimeRequest p payload s).1.leases = s.leases ∧ (settimeRequest p payload s).1.lines = s.lines ∧
    (settimeRequest p payload s).1.journal = s.journal ∧ (settimeRequest p payload s).1.groups = s.groups ∧
    (settimeRequest p payload s).1.ports = s.ports ∧ (settimeRequest p payload s).1.queues = s.queues ∧
    (settimeRequest p payload s).1.posts = s.posts ∧ (settimeRequest p payload s).1.offers = s.offers ∧
    (settimeRequest p payload s).1.lineMsgs = s.lineMsgs ∧ (settimeRequest p payload s).1.lockMsgs = s.lockMsgs ∧
    (settimeRequest p payload s).1.clocks = s.clocks ∧ (settimeRequest p payload s).1.pending = s.pending := by
  unfold settimeRequest
  repeat' first | split | dsimp only
  all_goals simp

@[simp] theorem timeRequest_frame (s : State) (payload : List Byte) :
    (timeRequest payload s).1.inReset = s.inReset ∧ (timeRequest payload s).1.resetSeenLow = s.resetSeenLow ∧
    (timeRequest payload s).1.tb = s.tb ∧ (timeRequest payload s).1.sched = s.sched ∧
    (timeRequest payload s).1.chans = s.chans ∧ (timeRequest payload s).1.leases = s.leases ∧
    (timeRequest payload s).1.lines = s.lines ∧ (timeRequest payload s).1.journal = s.journal ∧
    (timeRequest payload s).1.groups = s.groups ∧ (timeRequest payload s).1.ports = s.ports ∧
    (timeRequest payload s).1.queues = s.queues ∧ (timeRequest payload s).1.posts = s.posts ∧
    (timeRequest payload s).1.offers = s.offers ∧ (timeRequest payload s).1.lineMsgs = s.lineMsgs ∧
    (timeRequest payload s).1.lockMsgs = s.lockMsgs ∧ (timeRequest payload s).1.clocks = s.clocks ∧
    (timeRequest payload s).1.pending = s.pending := by
  unfold timeRequest
  repeat' first | split | dsimp only
  all_goals simp

@[simp] theorem State.postOutcome_frame (s : State) (e : Entry) (n : Option Notice) :
    (s.postOutcome e n).inReset = s.inReset ∧ (s.postOutcome e n).resetSeenLow = s.resetSeenLow ∧
    (s.postOutcome e n).tb = s.tb ∧ (s.postOutcome e n).sched = s.sched ∧ (s.postOutcome e n).chans = s.chans ∧
    (s.postOutcome e n).leases = s.leases ∧ (s.postOutcome e n).lines = s.lines ∧ (s.postOutcome e n).journal = s.journal ∧
    (s.postOutcome e n).groups = s.groups ∧ (s.postOutcome e n).ports = s.ports ∧ (s.postOutcome e n).queues = s.queues ∧
    (s.postOutcome e n).offers = s.offers ∧ (s.postOutcome e n).lineMsgs = s.lineMsgs ∧
    (s.postOutcome e n).lockMsgs = s.lockMsgs ∧ (s.postOutcome e n).pending = s.pending := by
  unfold State.postOutcome
  repeat' first | split | dsimp only
  all_goals simp

@[simp] theorem takeEntry_frame (s : State) (w : Work) (e : Entry) (rest : List Entry) :
    (takeEntry w e rest s).inReset = s.inReset ∧ (takeEntry w e rest s).resetSeenLow = s.resetSeenLow ∧
    (takeEntry w e rest s).tb = s.tb ∧ (takeEntry w e rest s).chans = s.chans ∧ (takeEntry w e rest s).leases = s.leases ∧
    (takeEntry w e rest s).lines = s.lines ∧ (takeEntry w e rest s).journal = s.journal ∧
    (takeEntry w e rest s).groups = s.groups ∧ (takeEntry w e rest s).ports = s.ports ∧
    (takeEntry w e rest s).queues = s.queues ∧ (takeEntry w e rest s).offers = s.offers ∧
    (takeEntry w e rest s).lineMsgs = s.lineMsgs ∧
    (takeEntry w e rest s).lockMsgs = s.lockMsgs ∧ (takeEntry w e rest s).pending = s.pending := by
  unfold takeEntry
  repeat' first | split | dsimp only
  all_goals simp

@[simp] theorem takeEntries_frame (s : State) (n : Nat) :
    (takeEntries n s).inReset = s.inReset ∧ (takeEntries n s).resetSeenLow = s.resetSeenLow ∧ (takeEntries n s).tb = s.tb ∧
    (takeEntries n s).chans = s.chans ∧ (takeEntries n s).leases = s.leases ∧ (takeEntries n s).lines = s.lines ∧
    (takeEntries n s).journal = s.journal ∧ (takeEntries n s).groups = s.groups ∧ (takeEntries n s).ports = s.ports ∧
    (takeEntries n s).queues = s.queues ∧ (takeEntries n s).offers = s.offers ∧
    (takeEntries n s).lineMsgs = s.lineMsgs ∧ (takeEntries n s).lockMsgs = s.lockMsgs ∧
    (takeEntries n s).pending = s.pending := by
  induction n generalizing s with
  | zero => simp [takeEntries]
  | succ n ih =>
    unfold takeEntries
    repeat' split
    all_goals simp [ih]

@[simp] theorem finishTick_frame (s : State) :
    (finishTick s).inReset = s.inReset ∧ (finishTick s).resetSeenLow = s.resetSeenLow ∧ (finishTick s).tb = s.tb ∧
    (finishTick s).chans = s.chans ∧ (finishTick s).leases = s.leases ∧ (finishTick s).lines = s.lines ∧
    (finishTick s).journal = s.journal ∧ (finishTick s).groups = s.groups ∧ (finishTick s).ports = s.ports ∧
    (finishTick s).queues = s.queues ∧ (finishTick s).posts = s.posts ∧
    (finishTick s).lineMsgs = s.lineMsgs ∧ (finishTick s).lockMsgs = s.lockMsgs ∧
    (finishTick s).pending = s.pending := by
  unfold finishTick
  repeat' first | split | dsimp only
  all_goals simp

@[simp] theorem openTick_frame (s : State) :
    (openTick s).inReset = s.inReset ∧ (openTick s).resetSeenLow = s.resetSeenLow ∧ (openTick s).tb = s.tb ∧
    (openTick s).chans = s.chans ∧ (openTick s).leases = s.leases ∧ (openTick s).lines = s.lines ∧
    (openTick s).journal = s.journal ∧ (openTick s).groups = s.groups ∧ (openTick s).ports = s.ports ∧
    (openTick s).queues = s.queues ∧ (openTick s).posts = s.posts ∧ (openTick s).offers = s.offers ∧
    (openTick s).lineMsgs = s.lineMsgs ∧ (openTick s).lockMsgs = s.lockMsgs ∧ (openTick s).pending = s.pending := by
  unfold openTick
  repeat' first | split | dsimp only
  all_goals simp

@[simp] theorem scheduleTickEvent_frame (s : State) (slice : Nat) :
    (scheduleTickEvent slice s).inReset = s.inReset ∧ (scheduleTickEvent slice s).resetSeenLow = s.resetSeenLow ∧
    (scheduleTickEvent slice s).tb = s.tb ∧ (scheduleTickEvent slice s).chans = s.chans ∧
    (scheduleTickEvent slice s).leases = s.leases ∧ (scheduleTickEvent slice s).lines = s.lines ∧
    (scheduleTickEvent slice s).journal = s.journal ∧ (scheduleTickEvent slice s).groups = s.groups ∧
    (scheduleTickEvent slice s).ports = s.ports ∧ (scheduleTickEvent slice s).queues = s.queues ∧
    (scheduleTickEvent slice s).lineMsgs = s.lineMsgs ∧ (scheduleTickEvent slice s).lockMsgs = s.lockMsgs ∧
    (scheduleTickEvent slice s).pending = s.pending := by
  unfold scheduleTickEvent
  repeat' first | split | dsimp only
  all_goals simp

@[simp] theorem submitRequest_frame (s : State) (p : Port) (payload : List Byte) :
    (submitRequest p payload s).1.inReset = s.inReset ∧ (submitRequest p payload s).1.resetSeenLow = s.resetSeenLow ∧
    (submitRequest p payload s).1.tb = s.tb ∧ (submitRequest p payload s).1.chans = s.chans ∧
    (submitRequest p payload s).1.leases = s.leases ∧ (submitRequest p payload s).1.lines = s.lines ∧
    (submitRequest p payload s).1.journal = s.journal ∧ (submitRequest p payload s).1.groups = s.groups ∧
    (submitRequest p payload s).1.ports = s.ports ∧ (submitRequest p payload s).1.queues = s.queues ∧
    (submitRequest p payload s).1.posts = s.posts ∧ (submitRequest p payload s).1.offers = s.offers ∧
    (submitRequest p payload s).1.lineMsgs = s.lineMsgs ∧ (submitRequest p payload s).1.lockMsgs = s.lockMsgs ∧
    (submitRequest p payload s).1.clocks = s.clocks ∧ (submitRequest p payload s).1.pending = s.pending := by
  unfold submitRequest
  repeat' first | split | dsimp only
  all_goals simp

@[simp] theorem cancelRequest_frame (s : State) (p : Port) (payload : List Byte) :
    (cancelRequest p payload s).1.inReset = s.inReset ∧ (cancelRequest p payload s).1.resetSeenLow = s.resetSeenLow ∧
    (cancelRequest p payload s).1.tb = s.tb ∧ (cancelRequest p payload s).1.chans = s.chans ∧
    (cancelRequest p payload s).1.leases = s.leases ∧ (cancelRequest p payload s).1.lines = s.lines ∧
    (cancelRequest p payload s).1.journal = s.journal ∧ (cancelRequest p payload s).1.groups = s.groups ∧
    (cancelRequest p payload s).1.ports = s.ports ∧ (cancelRequest p payload s).1.queues = s.queues ∧
    (cancelRequest p payload s).1.posts = s.posts ∧ (cancelRequest p payload s).1.offers = s.offers ∧
    (cancelRequest p payload s).1.lineMsgs = s.lineMsgs ∧ (cancelRequest p payload s).1.lockMsgs = s.lockMsgs ∧
    (cancelRequest p payload s).1.clocks = s.clocks ∧ (cancelRequest p payload s).1.pending = s.pending := by
  unfold cancelRequest
  repeat' first | split | dsimp only
  all_goals simp

@[simp] theorem cancelChannelRequest_frame (s : State) (p : Port) (payload : List Byte) :
    (cancelChannelRequest p payload s).1.inReset = s.inReset ∧
    (cancelChannelRequest p payload s).1.resetSeenLow = s.resetSeenLow ∧ (cancelChannelRequest p payload s).1.tb = s.tb ∧
    (cancelChannelRequest p payload s).1.chans = s.chans ∧ (cancelChannelRequest p payload s).1.leases = s.leases ∧
    (cancelChannelRequest p payload s).1.lines = s.lines ∧ (cancelChannelRequest p payload s).1.journal = s.journal ∧
    (cancelChannelRequest p payload s).1.groups = s.groups ∧ (cancelChannelRequest p payload s).1.ports = s.ports ∧
    (cancelChannelRequest p payload s).1.queues = s.queues ∧ (cancelChannelRequest p payload s).1.posts = s.posts ∧
    (cancelChannelRequest p payload s).1.offers = s.offers ∧ (cancelChannelRequest p payload s).1.lineMsgs = s.lineMsgs ∧
    (cancelChannelRequest p payload s).1.lockMsgs = s.lockMsgs ∧ (cancelChannelRequest p payload s).1.clocks = s.clocks ∧
    (cancelChannelRequest p payload s).1.pending = s.pending := by
  unfold cancelChannelRequest
  repeat' first | split | dsimp only
  all_goals simp

@[simp] theorem queryRequest_frame (s : State) (p : Port) (payload : List Byte) :
    (queryRequest p payload s).1.inReset = s.inReset ∧ (queryRequest p payload s).1.resetSeenLow = s.resetSeenLow ∧
    (queryRequest p payload s).1.tb = s.tb ∧ (queryRequest p payload s).1.sched = s.sched ∧
    (queryRequest p payload s).1.chans = s.chans ∧ (queryRequest p payload s).1.leases = s.leases ∧
    (queryRequest p payload s).1.lines = s.lines ∧ (queryRequest p payload s).1.journal = s.journal ∧
    (queryRequest p payload s).1.groups = s.groups ∧ (queryRequest p payload s).1.ports = s.ports ∧
    (queryRequest p payload s).1.queues = s.queues ∧ (queryRequest p payload s).1.posts = s.posts ∧
    (queryRequest p payload s).1.offers = s.offers ∧ (queryRequest p payload s).1.lineMsgs = s.lineMsgs ∧
    (queryRequest p payload s).1.lockMsgs = s.lockMsgs ∧ (queryRequest p payload s).1.clocks = s.clocks ∧
    (queryRequest p payload s).1.pending = s.pending := by
  unfold queryRequest
  repeat' first | split | dsimp only
  all_goals simp

@[simp] theorem scheduleRequest_frame (s : State) (p : Port) (payload : List Byte) :
    (scheduleRequest p payload s).1.inReset = s.inReset ∧ (scheduleRequest p payload s).1.resetSeenLow = s.resetSeenLow ∧
    (scheduleRequest p payload s).1.tb = s.tb ∧ (scheduleRequest p payload s).1.sched = s.sched ∧
    (scheduleRequest p payload s).1.chans = s.chans ∧ (scheduleRequest p payload s).1.leases = s.leases ∧
    (scheduleRequest p payload s).1.lines = s.lines ∧ (scheduleRequest p payload s).1.journal = s.journal ∧
    (scheduleRequest p payload s).1.groups = s.groups ∧ (scheduleRequest p payload s).1.ports = s.ports ∧
    (scheduleRequest p payload s).1.queues = s.queues ∧ (scheduleRequest p payload s).1.posts = s.posts ∧
    (scheduleRequest p payload s).1.offers = s.offers ∧ (scheduleRequest p payload s).1.lineMsgs = s.lineMsgs ∧
    (scheduleRequest p payload s).1.lockMsgs = s.lockMsgs ∧ (scheduleRequest p payload s).1.clocks = s.clocks ∧
    (scheduleRequest p payload s).1.pending = s.pending := by
  unfold scheduleRequest
  repeat' first | split | dsimp only
  all_goals simp

@[simp] theorem State.postDropped_frame (s : State) (why : DropReason) (es : List Entry) :
    (s.postDropped why es).inReset = s.inReset ∧ (s.postDropped why es).resetSeenLow = s.resetSeenLow ∧
    (s.postDropped why es).tb = s.tb ∧ (s.postDropped why es).sched = s.sched ∧ (s.postDropped why es).chans = s.chans ∧
    (s.postDropped why es).leases = s.leases ∧ (s.postDropped why es).lines = s.lines ∧
    (s.postDropped why es).journal = s.journal ∧ (s.postDropped why es).groups = s.groups ∧
    (s.postDropped why es).ports = s.ports ∧ (s.postDropped why es).queues = s.queues ∧
    (s.postDropped why es).offers = s.offers ∧ (s.postDropped why es).lineMsgs = s.lineMsgs ∧
    (s.postDropped why es).lockMsgs = s.lockMsgs ∧ (s.postDropped why es).pending = s.pending := by
  unfold State.postDropped
  generalize s.tb.machTime = m
  induction es generalizing s with
  | nil => simp
  | cons x es ih => simpa using ih (s.post .schedule x.owner (droppedNotice x.tag why m))

@[simp] theorem leaseEndPurgeEvent_frame (s : State) (c : Chan) :
    (leaseEndPurgeEvent c s).inReset = s.inReset ∧ (leaseEndPurgeEvent c s).resetSeenLow = s.resetSeenLow ∧
    (leaseEndPurgeEvent c s).tb = s.tb ∧ (leaseEndPurgeEvent c s).chans = s.chans ∧ (leaseEndPurgeEvent c s).lines = s.lines ∧
    (leaseEndPurgeEvent c s).journal = s.journal ∧ (leaseEndPurgeEvent c s).groups = s.groups ∧
    (leaseEndPurgeEvent c s).ports = s.ports ∧ (leaseEndPurgeEvent c s).queues = s.queues ∧
    (leaseEndPurgeEvent c s).offers = s.offers ∧ (leaseEndPurgeEvent c s).lineMsgs = s.lineMsgs ∧
    (leaseEndPurgeEvent c s).lockMsgs = s.lockMsgs ∧ (leaseEndPurgeEvent c s).pending = s.pending := by
  unfold leaseEndPurgeEvent
  repeat' first | split | dsimp only
  all_goals simp

@[simp] theorem tripPurgeEvent_frame (s : State) (g : GroupId) :
    (tripPurgeEvent g s).inReset = s.inReset ∧ (tripPurgeEvent g s).resetSeenLow = s.resetSeenLow ∧
    (tripPurgeEvent g s).tb = s.tb ∧ (tripPurgeEvent g s).chans = s.chans ∧ (tripPurgeEvent g s).leases = s.leases ∧
    (tripPurgeEvent g s).lines = s.lines ∧ (tripPurgeEvent g s).journal = s.journal ∧ (tripPurgeEvent g s).ports = s.ports ∧
    (tripPurgeEvent g s).queues = s.queues ∧ (tripPurgeEvent g s).offers = s.offers ∧
    (tripPurgeEvent g s).lineMsgs = s.lineMsgs ∧ (tripPurgeEvent g s).lockMsgs = s.lockMsgs ∧
    (tripPurgeEvent g s).pending = s.pending := by
  unfold tripPurgeEvent
  repeat' first | split | dsimp only
  all_goals simp

@[simp] theorem scheduleTeardownEvent_frame (s : State) (p : Port) :
    (scheduleTeardownEvent p s).inReset = s.inReset ∧ (scheduleTeardownEvent p s).resetSeenLow = s.resetSeenLow ∧
    (scheduleTeardownEvent p s).tb = s.tb ∧ (scheduleTeardownEvent p s).chans = s.chans ∧
    (scheduleTeardownEvent p s).leases = s.leases ∧ (scheduleTeardownEvent p s).lines = s.lines ∧
    (scheduleTeardownEvent p s).journal = s.journal ∧ (scheduleTeardownEvent p s).groups = s.groups ∧
    (scheduleTeardownEvent p s).queues = s.queues ∧ (scheduleTeardownEvent p s).posts = s.posts ∧
    (scheduleTeardownEvent p s).offers = s.offers ∧ (scheduleTeardownEvent p s).lineMsgs = s.lineMsgs ∧
    (scheduleTeardownEvent p s).lockMsgs = s.lockMsgs ∧ (scheduleTeardownEvent p s).pending = s.pending := by
  unfold scheduleTeardownEvent
  repeat' first | split | dsimp only
  all_goals simp

@[simp] theorem State.postSuperseded_frame (s : State) (c : Chan) (tag : Nat) :
    (s.postSuperseded c tag).inReset = s.inReset ∧ (s.postSuperseded c tag).resetSeenLow = s.resetSeenLow ∧
    (s.postSuperseded c tag).tb = s.tb ∧ (s.postSuperseded c tag).sched = s.sched ∧ (s.postSuperseded c tag).chans = s.chans ∧
    (s.postSuperseded c tag).leases = s.leases ∧ (s.postSuperseded c tag).lines = s.lines ∧
    (s.postSuperseded c tag).journal = s.journal ∧ (s.postSuperseded c tag).groups = s.groups ∧
    (s.postSuperseded c tag).ports = s.ports ∧ (s.postSuperseded c tag).queues = s.queues ∧
    (s.postSuperseded c tag).offers = s.offers ∧ (s.postSuperseded c tag).lineMsgs = s.lineMsgs ∧
    (s.postSuperseded c tag).lockMsgs = s.lockMsgs ∧ (s.postSuperseded c tag).pending = s.pending := by
  unfold State.postSuperseded
  repeat' first | split | dsimp only
  all_goals simp

@[simp] theorem applySet_frame (s : State) (c : Chan) (level : Level) (tag : Nat) :
    (applySet c level tag s).inReset = s.inReset ∧ (applySet c level tag s).resetSeenLow = s.resetSeenLow ∧
    (applySet c level tag s).tb = s.tb ∧ (applySet c level tag s).sched = s.sched ∧
    (applySet c level tag s).leases = s.leases ∧ (applySet c level tag s).lines = s.lines ∧
    (applySet c level tag s).journal = s.journal ∧ (applySet c level tag s).groups = s.groups ∧
    (applySet c level tag s).ports = s.ports ∧ (applySet c level tag s).queues = s.queues ∧
    (applySet c level tag s).offers = s.offers ∧ (applySet c level tag s).lineMsgs = s.lineMsgs ∧
    (applySet c level tag s).lockMsgs = s.lockMsgs ∧ (applySet c level tag s).pending = s.pending := by
  unfold applySet
  repeat' first | split | dsimp only
  all_goals simp

@[simp] theorem applyWave_frame (s : State) (c : Chan) (e : Entry) (kind : WaveKind) (ticks ordinal : Nat) :
    (applyWave c e kind ticks ordinal s).inReset = s.inReset ∧
    (applyWave c e kind ticks ordinal s).resetSeenLow = s.resetSeenLow ∧ (applyWave c e kind ticks ordinal s).tb = s.tb ∧
    (applyWave c e kind ticks ordinal s).sched = s.sched ∧ (applyWave c e kind ticks ordinal s).leases = s.leases ∧
    (applyWave c e kind ticks ordinal s).lines = s.lines ∧ (applyWave c e kind ticks ordinal s).journal = s.journal ∧
    (applyWave c e kind ticks ordinal s).groups = s.groups ∧ (applyWave c e kind ticks ordinal s).ports = s.ports ∧
    (applyWave c e kind ticks ordinal s).queues = s.queues ∧ (applyWave c e kind ticks ordinal s).offers = s.offers ∧
    (applyWave c e kind ticks ordinal s).lineMsgs = s.lineMsgs ∧ (applyWave c e kind ticks ordinal s).lockMsgs = s.lockMsgs ∧
    (applyWave c e kind ticks ordinal s).pending = s.pending := by
  unfold applyWave
  repeat' first | split | dsimp only
  all_goals simp

@[simp] theorem applyGroupSet_frame (s : State) (values : ChanSet) (tag : Nat) (cs : List Chan) :
    (applyGroupSet values tag cs s).inReset = s.inReset ∧ (applyGroupSet values tag cs s).resetSeenLow = s.resetSeenLow ∧
    (applyGroupSet values tag cs s).tb = s.tb ∧ (applyGroupSet values tag cs s).sched = s.sched ∧
    (applyGroupSet values tag cs s).leases = s.leases ∧ (applyGroupSet values tag cs s).lines = s.lines ∧
    (applyGroupSet values tag cs s).journal = s.journal ∧ (applyGroupSet values tag cs s).groups = s.groups ∧
    (applyGroupSet values tag cs s).ports = s.ports ∧ (applyGroupSet values tag cs s).queues = s.queues ∧
    (applyGroupSet values tag cs s).offers = s.offers ∧ (applyGroupSet values tag cs s).lineMsgs = s.lineMsgs ∧
    (applyGroupSet values tag cs s).lockMsgs = s.lockMsgs ∧ (applyGroupSet values tag cs s).pending = s.pending := by
  unfold applyGroupSet
  induction cs generalizing s with
  | nil => simp
  | cons x cs ih => simpa using ih (applySet x (values.getLsbD x.val) tag s)

@[simp] theorem applyAction_frame (s : State) (e : Entry) (ordinal : Nat) :
    (applyAction e ordinal s).inReset = s.inReset ∧ (applyAction e ordinal s).resetSeenLow = s.resetSeenLow ∧
    (applyAction e ordinal s).tb = s.tb ∧ (applyAction e ordinal s).sched = s.sched ∧
    (applyAction e ordinal s).leases = s.leases ∧ (applyAction e ordinal s).lines = s.lines ∧
    (applyAction e ordinal s).journal = s.journal ∧ (applyAction e ordinal s).groups = s.groups ∧
    (applyAction e ordinal s).ports = s.ports ∧ (applyAction e ordinal s).queues = s.queues ∧
    (applyAction e ordinal s).offers = s.offers ∧ (applyAction e ordinal s).lineMsgs = s.lineMsgs ∧
    (applyAction e ordinal s).lockMsgs = s.lockMsgs ∧ (applyAction e ordinal s).pending = s.pending := by
  unfold applyAction
  repeat' first | split | dsimp only
  all_goals simp

@[simp] theorem takeApplication_frame (s : State) (w : Work) (e : Entry) :
    (takeApplication w e s).1.inReset = s.inReset ∧ (takeApplication w e s).1.resetSeenLow = s.resetSeenLow ∧
    (takeApplication w e s).1.tb = s.tb ∧ (takeApplication w e s).1.sched = s.sched ∧
    (takeApplication w e s).1.leases = s.leases ∧ (takeApplication w e s).1.lines = s.lines ∧
    (takeApplication w e s).1.journal = s.journal ∧ (takeApplication w e s).1.groups = s.groups ∧
    (takeApplication w e s).1.ports = s.ports ∧ (takeApplication w e s).1.queues = s.queues ∧
    (takeApplication w e s).1.offers = s.offers ∧ (takeApplication w e s).1.lineMsgs = s.lineMsgs ∧
    (takeApplication w e s).1.lockMsgs = s.lockMsgs ∧ (takeApplication w e s).1.pending = s.pending := by
  unfold takeApplication
  repeat' first | split | dsimp only
  all_goals simp

@[simp] theorem applicationEvent_frame (s : State) :
    (applicationEvent s).inReset = s.inReset ∧ (applicationEvent s).resetSeenLow = s.resetSeenLow ∧
    (applicationEvent s).tb = s.tb ∧ (applicationEvent s).leases = s.leases ∧ (applicationEvent s).lines = s.lines ∧
    (applicationEvent s).journal = s.journal ∧ (applicationEvent s).groups = s.groups ∧ (applicationEvent s).ports = s.ports ∧
    (applicationEvent s).queues = s.queues ∧
    (applicationEvent s).lineMsgs = s.lineMsgs ∧ (applicationEvent s).lockMsgs = s.lockMsgs ∧
    (applicationEvent s).pending = s.pending := by
  unfold applicationEvent
  repeat' first | split | dsimp only
  all_goals simp

@[simp] theorem channelTickEvent_frame (s : State) (c : Chan) :
    (channelTickEvent c s).inReset = s.inReset ∧ (channelTickEvent c s).resetSeenLow = s.resetSeenLow ∧
    (channelTickEvent c s).tb = s.tb ∧ (channelTickEvent c s).sched = s.sched ∧ (channelTickEvent c s).leases = s.leases ∧
    (channelTickEvent c s).lines = s.lines ∧ (channelTickEvent c s).journal = s.journal ∧
    (channelTickEvent c s).groups = s.groups ∧ (channelTickEvent c s).ports = s.ports ∧
    (channelTickEvent c s).queues = s.queues ∧ (channelTickEvent c s).posts = s.posts ∧
    (channelTickEvent c s).offers = s.offers ∧ (channelTickEvent c s).lineMsgs = s.lineMsgs ∧
    (channelTickEvent c s).lockMsgs = s.lockMsgs ∧ (channelTickEvent c s).pending = s.pending := by
  unfold channelTickEvent
  repeat' first | split | dsimp only
  all_goals simp

@[simp] theorem State.postWaveDone_frame (s : State) (w : Wave) (done : Nat) :
    (s.postWaveDone w done).inReset = s.inReset ∧ (s.postWaveDone w done).resetSeenLow = s.resetSeenLow ∧
    (s.postWaveDone w done).tb = s.tb ∧ (s.postWaveDone w done).sched = s.sched ∧ (s.postWaveDone w done).chans = s.chans ∧
    (s.postWaveDone w done).leases = s.leases ∧ (s.postWaveDone w done).lines = s.lines ∧
    (s.postWaveDone w done).journal = s.journal ∧ (s.postWaveDone w done).groups = s.groups ∧
    (s.postWaveDone w done).ports = s.ports ∧ (s.postWaveDone w done).queues = s.queues ∧
    (s.postWaveDone w done).offers = s.offers ∧ (s.postWaveDone w done).lineMsgs = s.lineMsgs ∧
    (s.postWaveDone w done).lockMsgs = s.lockMsgs ∧ (s.postWaveDone w done).pending = s.pending := by
  unfold State.postWaveDone
  repeat' first | split | dsimp only
  all_goals simp

@[simp] theorem pulseEndEvent_frame (s : State) (c : Chan) :
    (pulseEndEvent c s).inReset = s.inReset ∧ (pulseEndEvent c s).resetSeenLow = s.resetSeenLow ∧
    (pulseEndEvent c s).tb = s.tb ∧ (pulseEndEvent c s).sched = s.sched ∧ (pulseEndEvent c s).leases = s.leases ∧
    (pulseEndEvent c s).lines = s.lines ∧ (pulseEndEvent c s).journal = s.journal ∧ (pulseEndEvent c s).groups = s.groups ∧
    (pulseEndEvent c s).ports = s.ports ∧ (pulseEndEvent c s).queues = s.queues ∧ (pulseEndEvent c s).offers = s.offers ∧
    (pulseEndEvent c s).lineMsgs = s.lineMsgs ∧ (pulseEndEvent c s).lockMsgs = s.lockMsgs ∧
    (pulseEndEvent c s).pending = s.pending := by
  unfold pulseEndEvent
  repeat' first | split | dsimp only
  all_goals simp

@[simp] theorem trainEdgeEvent_frame (s : State) (c : Chan) :
    (trainEdgeEvent c s).inReset = s.inReset ∧ (trainEdgeEvent c s).resetSeenLow = s.resetSeenLow ∧
    (trainEdgeEvent c s).tb = s.tb ∧ (trainEdgeEvent c s).sched = s.sched ∧ (trainEdgeEvent c s).leases = s.leases ∧
    (trainEdgeEvent c s).lines = s.lines ∧ (trainEdgeEvent c s).journal = s.journal ∧ (trainEdgeEvent c s).groups = s.groups ∧
    (trainEdgeEvent c s).ports = s.ports ∧ (trainEdgeEvent c s).queues = s.queues ∧ (trainEdgeEvent c s).offers = s.offers ∧
    (trainEdgeEvent c s).lineMsgs = s.lineMsgs ∧ (trainEdgeEvent c s).lockMsgs = s.lockMsgs ∧
    (trainEdgeEvent c s).pending = s.pending := by
  unfold trainEdgeEvent
  repeat' first | split | dsimp only
  all_goals simp

@[simp] theorem leaseEndShareEvent_frame (s : State) (c : Chan) :
    (leaseEndShareEvent c s).inReset = s.inReset ∧ (leaseEndShareEvent c s).resetSeenLow = s.resetSeenLow ∧
    (leaseEndShareEvent c s).tb = s.tb ∧ (leaseEndShareEvent c s).sched = s.sched ∧ (leaseEndShareEvent c s).lines = s.lines ∧
    (leaseEndShareEvent c s).journal = s.journal ∧ (leaseEndShareEvent c s).groups = s.groups ∧
    (leaseEndShareEvent c s).ports = s.ports ∧ (leaseEndShareEvent c s).queues = s.queues ∧
    (leaseEndShareEvent c s).posts = s.posts ∧ (leaseEndShareEvent c s).offers = s.offers ∧
    (leaseEndShareEvent c s).lineMsgs = s.lineMsgs ∧ (leaseEndShareEvent c s).lockMsgs = s.lockMsgs ∧
    (leaseEndShareEvent c s).pending = s.pending := by
  unfold leaseEndShareEvent
  repeat' first | split | dsimp only
  all_goals simp

@[simp] theorem lockEvent_frame (s : State) (c : Chan) (g : GroupId) :
    (lockEvent c g s).inReset = s.inReset ∧ (lockEvent c g s).resetSeenLow = s.resetSeenLow ∧ (lockEvent c g s).tb = s.tb ∧
    (lockEvent c g s).sched = s.sched ∧ (lockEvent c g s).leases = s.leases ∧ (lockEvent c g s).lines = s.lines ∧
    (lockEvent c g s).journal = s.journal ∧ (lockEvent c g s).ports = s.ports ∧ (lockEvent c g s).queues = s.queues ∧
    (lockEvent c g s).posts = s.posts ∧ (lockEvent c g s).offers = s.offers ∧ (lockEvent c g s).lineMsgs = s.lineMsgs ∧
    (lockEvent c g s).pending = s.pending := by
  unfold lockEvent
  repeat' first | split | dsimp only
  all_goals simp

@[simp] theorem State.postUnlocked_frame (s : State) (c : Chan) :
    (s.postUnlocked c).inReset = s.inReset ∧ (s.postUnlocked c).resetSeenLow = s.resetSeenLow ∧ (s.postUnlocked c).tb = s.tb ∧
    (s.postUnlocked c).sched = s.sched ∧ (s.postUnlocked c).chans = s.chans ∧ (s.postUnlocked c).leases = s.leases ∧
    (s.postUnlocked c).lines = s.lines ∧ (s.postUnlocked c).journal = s.journal ∧ (s.postUnlocked c).groups = s.groups ∧
    (s.postUnlocked c).ports = s.ports ∧ (s.postUnlocked c).queues = s.queues ∧ (s.postUnlocked c).offers = s.offers ∧
    (s.postUnlocked c).lineMsgs = s.lineMsgs ∧ (s.postUnlocked c).lockMsgs = s.lockMsgs ∧ (s.postUnlocked c).pending = s.pending := by
  unfold State.postUnlocked
  repeat' first | split | dsimp only
  all_goals simp

@[simp] theorem unlockEvent_frame (s : State) (c : Chan) (g : GroupId) :
    (unlockEvent c g s).inReset = s.inReset ∧ (unlockEvent c g s).resetSeenLow = s.resetSeenLow ∧
    (unlockEvent c g s).tb = s.tb ∧ (unlockEvent c g s).sched = s.sched ∧ (unlockEvent c g s).leases = s.leases ∧
    (unlockEvent c g s).lines = s.lines ∧ (unlockEvent c g s).journal = s.journal ∧ (unlockEvent c g s).groups = s.groups ∧
    (unlockEvent c g s).ports = s.ports ∧ (unlockEvent c g s).queues = s.queues ∧ (unlockEvent c g s).offers = s.offers ∧
    (unlockEvent c g s).lineMsgs = s.lineMsgs ∧ (unlockEvent c g s).pending = s.pending := by
  unfold unlockEvent
  repeat' first | split | dsimp only
  all_goals simp

@[simp] theorem channelConfigRequest_frame (s : State) (p : Port) (payload : List Byte) :
    (channelConfigRequest p payload s).1.inReset = s.inReset ∧
    (channelConfigRequest p payload s).1.resetSeenLow = s.resetSeenLow ∧ (channelConfigRequest p payload s).1.tb = s.tb ∧
    (channelConfigRequest p payload s).1.sched = s.sched ∧ (channelConfigRequest p payload s).1.leases = s.leases ∧
    (channelConfigRequest p payload s).1.lines = s.lines ∧ (channelConfigRequest p payload s).1.journal = s.journal ∧
    (channelConfigRequest p payload s).1.groups = s.groups ∧ (channelConfigRequest p payload s).1.ports = s.ports ∧
    (channelConfigRequest p payload s).1.queues = s.queues ∧ (channelConfigRequest p payload s).1.posts = s.posts ∧
    (channelConfigRequest p payload s).1.offers = s.offers ∧ (channelConfigRequest p payload s).1.lineMsgs = s.lineMsgs ∧
    (channelConfigRequest p payload s).1.lockMsgs = s.lockMsgs ∧ (channelConfigRequest p payload s).1.clocks = s.clocks ∧
    (channelConfigRequest p payload s).1.pending = s.pending := by
  unfold channelConfigRequest
  repeat' first | split | dsimp only
  all_goals simp

@[simp] theorem channelsRequest_frame (s : State) (payload : List Byte) :
    (channelsRequest payload s).1.inReset = s.inReset ∧ (channelsRequest payload s).1.resetSeenLow = s.resetSeenLow ∧
    (channelsRequest payload s).1.tb = s.tb ∧ (channelsRequest payload s).1.sched = s.sched ∧
    (channelsRequest payload s).1.chans = s.chans ∧ (channelsRequest payload s).1.leases = s.leases ∧
    (channelsRequest payload s).1.lines = s.lines ∧ (channelsRequest payload s).1.journal = s.journal ∧
    (channelsRequest payload s).1.groups = s.groups ∧ (channelsRequest payload s).1.ports = s.ports ∧
    (channelsRequest payload s).1.queues = s.queues ∧ (channelsRequest payload s).1.posts = s.posts ∧
    (channelsRequest payload s).1.offers = s.offers ∧ (channelsRequest payload s).1.lineMsgs = s.lineMsgs ∧
    (channelsRequest payload s).1.lockMsgs = s.lockMsgs ∧ (channelsRequest payload s).1.clocks = s.clocks ∧
    (channelsRequest payload s).1.pending = s.pending := by
  unfold channelsRequest
  repeat' first | split | dsimp only
  all_goals simp

@[simp] theorem grantStep_frame (s : State) (r : ResId) :
    (grantStep r s).inReset = s.inReset ∧ (grantStep r s).resetSeenLow = s.resetSeenLow ∧ (grantStep r s).tb = s.tb ∧
    (grantStep r s).sched = s.sched ∧ (grantStep r s).chans = s.chans ∧ (grantStep r s).lines = s.lines ∧
    (grantStep r s).journal = s.journal ∧ (grantStep r s).groups = s.groups ∧ (grantStep r s).ports = s.ports ∧
    (grantStep r s).queues = s.queues ∧ (grantStep r s).offers = s.offers ∧ (grantStep r s).lineMsgs = s.lineMsgs ∧
    (grantStep r s).lockMsgs = s.lockMsgs ∧ (grantStep r s).pending = s.pending := by
  unfold grantStep
  repeat' first | split | dsimp only
  all_goals simp

@[simp] theorem endLease_frame (s : State) (r : ResId) (cause : EndCause) (old : Port) :
    (endLease r cause old s).inReset = s.inReset ∧ (endLease r cause old s).resetSeenLow = s.resetSeenLow ∧
    (endLease r cause old s).tb = s.tb ∧ (endLease r cause old s).sched = s.sched ∧ (endLease r cause old s).chans = s.chans ∧
    (endLease r cause old s).lines = s.lines ∧ (endLease r cause old s).journal = s.journal ∧
    (endLease r cause old s).groups = s.groups ∧ (endLease r cause old s).ports = s.ports ∧
    (endLease r cause old s).queues = s.queues ∧ (endLease r cause old s).offers = s.offers ∧
    (endLease r cause old s).lineMsgs = s.lineMsgs ∧ (endLease r cause old s).lockMsgs = s.lockMsgs ∧
    (endLease r cause old s).pending = s.pending := by
  unfold endLease
  repeat' first | split | dsimp only
  all_goals simp

@[simp] theorem purgeReportEvent_frame (s : State) (c : Chan) :
    (purgeReportEvent c s).inReset = s.inReset ∧ (purgeReportEvent c s).resetSeenLow = s.resetSeenLow ∧
    (purgeReportEvent c s).tb = s.tb ∧ (purgeReportEvent c s).sched = s.sched ∧ (purgeReportEvent c s).chans = s.chans ∧
    (purgeReportEvent c s).lines = s.lines ∧ (purgeReportEvent c s).journal = s.journal ∧
    (purgeReportEvent c s).groups = s.groups ∧ (purgeReportEvent c s).ports = s.ports ∧
    (purgeReportEvent c s).queues = s.queues ∧ (purgeReportEvent c s).posts = s.posts ∧
    (purgeReportEvent c s).offers = s.offers ∧ (purgeReportEvent c s).lineMsgs = s.lineMsgs ∧
    (purgeReportEvent c s).lockMsgs = s.lockMsgs ∧ (purgeReportEvent c s).pending = s.pending := by
  unfold purgeReportEvent
  repeat' first | split | dsimp only
  all_goals simp

@[simp] theorem leasePartCheck_frame (s : State) (p : Port) :
    (leasePartCheck p s).inReset = s.inReset ∧ (leasePartCheck p s).resetSeenLow = s.resetSeenLow ∧
    (leasePartCheck p s).tb = s.tb ∧ (leasePartCheck p s).sched = s.sched ∧ (leasePartCheck p s).chans = s.chans ∧
    (leasePartCheck p s).leases = s.leases ∧ (leasePartCheck p s).lines = s.lines ∧ (leasePartCheck p s).journal = s.journal ∧
    (leasePartCheck p s).groups = s.groups ∧ (leasePartCheck p s).queues = s.queues ∧ (leasePartCheck p s).posts = s.posts ∧
    (leasePartCheck p s).offers = s.offers ∧ (leasePartCheck p s).lineMsgs = s.lineMsgs ∧
    (leasePartCheck p s).lockMsgs = s.lockMsgs ∧ (leasePartCheck p s).clocks = s.clocks ∧
    (leasePartCheck p s).pending = s.pending := by
  unfold leasePartCheck
  repeat' first | split | dsimp only
  all_goals simp

@[simp] theorem grantStepEvent_frame (s : State) (c : Chan) :
    (grantStepEvent c s).inReset = s.inReset ∧ (grantStepEvent c s).resetSeenLow = s.resetSeenLow ∧
    (grantStepEvent c s).tb = s.tb ∧ (grantStepEvent c s).sched = s.sched ∧ (grantStepEvent c s).chans = s.chans ∧
    (grantStepEvent c s).lines = s.lines ∧ (grantStepEvent c s).journal = s.journal ∧ (grantStepEvent c s).groups = s.groups ∧
    (grantStepEvent c s).queues = s.queues ∧ (grantStepEvent c s).offers = s.offers ∧
    (grantStepEvent c s).lineMsgs = s.lineMsgs ∧ (grantStepEvent c s).lockMsgs = s.lockMsgs ∧
    (grantStepEvent c s).pending = s.pending := by
  unfold grantStepEvent
  repeat' first | split | dsimp only
  all_goals simp

@[simp] theorem grantAtClaim_frame (s : State) (r : ResId) (p : Port) (hold : Nat) :
    (grantAtClaim r p hold s).inReset = s.inReset ∧ (grantAtClaim r p hold s).resetSeenLow = s.resetSeenLow ∧
    (grantAtClaim r p hold s).tb = s.tb ∧ (grantAtClaim r p hold s).sched = s.sched ∧
    (grantAtClaim r p hold s).chans = s.chans ∧ (grantAtClaim r p hold s).lines = s.lines ∧
    (grantAtClaim r p hold s).journal = s.journal ∧ (grantAtClaim r p hold s).groups = s.groups ∧
    (grantAtClaim r p hold s).ports = s.ports ∧ (grantAtClaim r p hold s).queues = s.queues ∧
    (grantAtClaim r p hold s).posts = s.posts ∧ (grantAtClaim r p hold s).offers = s.offers ∧
    (grantAtClaim r p hold s).lineMsgs = s.lineMsgs ∧ (grantAtClaim r p hold s).lockMsgs = s.lockMsgs ∧
    (grantAtClaim r p hold s).clocks = s.clocks ∧ (grantAtClaim r p hold s).pending = s.pending := by
  unfold grantAtClaim
  repeat' first | split | dsimp only
  all_goals simp

@[simp] theorem queueClaim_frame (s : State) (r : ResId) (p : Port) (hold wait : Nat) :
    (queueClaim r p hold wait s).inReset = s.inReset ∧ (queueClaim r p hold wait s).resetSeenLow = s.resetSeenLow ∧
    (queueClaim r p hold wait s).tb = s.tb ∧ (queueClaim r p hold wait s).sched = s.sched ∧
    (queueClaim r p hold wait s).chans = s.chans ∧ (queueClaim r p hold wait s).lines = s.lines ∧
    (queueClaim r p hold wait s).journal = s.journal ∧ (queueClaim r p hold wait s).groups = s.groups ∧
    (queueClaim r p hold wait s).ports = s.ports ∧ (queueClaim r p hold wait s).queues = s.queues ∧
    (queueClaim r p hold wait s).posts = s.posts ∧ (queueClaim r p hold wait s).offers = s.offers ∧
    (queueClaim r p hold wait s).lineMsgs = s.lineMsgs ∧ (queueClaim r p hold wait s).lockMsgs = s.lockMsgs ∧
    (queueClaim r p hold wait s).clocks = s.clocks ∧ (queueClaim r p hold wait s).pending = s.pending := by
  unfold queueClaim
  repeat' first | split | dsimp only
  all_goals simp

@[simp] theorem claimRequest_frame (s : State) (p : Port) (payload : List Byte) :
    (claimRequest p payload s).1.inReset = s.inReset ∧ (claimRequest p payload s).1.resetSeenLow = s.resetSeenLow ∧
    (claimRequest p payload s).1.tb = s.tb ∧ (claimRequest p payload s).1.sched = s.sched ∧
    (claimRequest p payload s).1.chans = s.chans ∧ (claimRequest p payload s).1.lines = s.lines ∧
    (claimRequest p payload s).1.journal = s.journal ∧ (claimRequest p payload s).1.groups = s.groups ∧
    (claimRequest p payload s).1.ports = s.ports ∧ (claimRequest p payload s).1.queues = s.queues ∧
    (claimRequest p payload s).1.posts = s.posts ∧ (claimRequest p payload s).1.offers = s.offers ∧
    (claimRequest p payload s).1.lineMsgs = s.lineMsgs ∧ (claimRequest p payload s).1.lockMsgs = s.lockMsgs ∧
    (claimRequest p payload s).1.clocks = s.clocks ∧ (claimRequest p payload s).1.pending = s.pending := by
  unfold claimRequest
  repeat' first | split | dsimp only
  all_goals simp

@[simp] theorem releaseRequest_frame (s : State) (p : Port) (payload : List Byte) :
    (releaseRequest p payload s).1.inReset = s.inReset ∧ (releaseRequest p payload s).1.resetSeenLow = s.resetSeenLow ∧
    (releaseRequest p payload s).1.tb = s.tb ∧ (releaseRequest p payload s).1.sched = s.sched ∧
    (releaseRequest p payload s).1.chans = s.chans ∧ (releaseRequest p payload s).1.lines = s.lines ∧
    (releaseRequest p payload s).1.journal = s.journal ∧ (releaseRequest p payload s).1.groups = s.groups ∧
    (releaseRequest p payload s).1.ports = s.ports ∧ (releaseRequest p payload s).1.queues = s.queues ∧
    (releaseRequest p payload s).1.offers = s.offers ∧ (releaseRequest p payload s).1.lineMsgs = s.lineMsgs ∧
    (releaseRequest p payload s).1.lockMsgs = s.lockMsgs ∧ (releaseRequest p payload s).1.pending = s.pending := by
  unfold releaseRequest
  repeat' first | split | dsimp only
  all_goals simp

@[simp] theorem leasesRequest_frame (s : State) (payload : List Byte) :
    (leasesRequest payload s).1.inReset = s.inReset ∧ (leasesRequest payload s).1.resetSeenLow = s.resetSeenLow ∧
    (leasesRequest payload s).1.tb = s.tb ∧ (leasesRequest payload s).1.sched = s.sched ∧
    (leasesRequest payload s).1.chans = s.chans ∧ (leasesRequest payload s).1.leases = s.leases ∧
    (leasesRequest payload s).1.lines = s.lines ∧ (leasesRequest payload s).1.journal = s.journal ∧
    (leasesRequest payload s).1.groups = s.groups ∧ (leasesRequest payload s).1.ports = s.ports ∧
    (leasesRequest payload s).1.queues = s.queues ∧ (leasesRequest payload s).1.posts = s.posts ∧
    (leasesRequest payload s).1.offers = s.offers ∧ (leasesRequest payload s).1.lineMsgs = s.lineMsgs ∧
    (leasesRequest payload s).1.lockMsgs = s.lockMsgs ∧ (leasesRequest payload s).1.clocks = s.clocks ∧
    (leasesRequest payload s).1.pending = s.pending := by
  unfold leasesRequest
  repeat' first | split | dsimp only
  all_goals simp

@[simp] theorem holdLimitExpiryEvent_frame (s : State) (r : ResId) :
    (holdLimitExpiryEvent r s).inReset = s.inReset ∧ (holdLimitExpiryEvent r s).resetSeenLow = s.resetSeenLow ∧
    (holdLimitExpiryEvent r s).tb = s.tb ∧ (holdLimitExpiryEvent r s).sched = s.sched ∧
    (holdLimitExpiryEvent r s).chans = s.chans ∧ (holdLimitExpiryEvent r s).lines = s.lines ∧
    (holdLimitExpiryEvent r s).journal = s.journal ∧ (holdLimitExpiryEvent r s).groups = s.groups ∧
    (holdLimitExpiryEvent r s).ports = s.ports ∧ (holdLimitExpiryEvent r s).queues = s.queues ∧
    (holdLimitExpiryEvent r s).posts = s.posts ∧ (holdLimitExpiryEvent r s).offers = s.offers ∧
    (holdLimitExpiryEvent r s).lineMsgs = s.lineMsgs ∧ (holdLimitExpiryEvent r s).lockMsgs = s.lockMsgs ∧
    (holdLimitExpiryEvent r s).clocks = s.clocks ∧ (holdLimitExpiryEvent r s).pending = s.pending := by
  unfold holdLimitExpiryEvent
  repeat' first | split | dsimp only
  all_goals simp

@[simp] theorem revocationEvent_frame (s : State) (r : ResId) :
    (revocationEvent r s).inReset = s.inReset ∧ (revocationEvent r s).resetSeenLow = s.resetSeenLow ∧
    (revocationEvent r s).tb = s.tb ∧ (revocationEvent r s).sched = s.sched ∧ (revocationEvent r s).chans = s.chans ∧
    (revocationEvent r s).lines = s.lines ∧ (revocationEvent r s).journal = s.journal ∧
    (revocationEvent r s).groups = s.groups ∧ (revocationEvent r s).ports = s.ports ∧ (revocationEvent r s).queues = s.queues ∧
    (revocationEvent r s).offers = s.offers ∧ (revocationEvent r s).lineMsgs = s.lineMsgs ∧
    (revocationEvent r s).lockMsgs = s.lockMsgs ∧ (revocationEvent r s).pending = s.pending := by
  unfold revocationEvent
  repeat' first | split | dsimp only
  all_goals simp

@[simp] theorem waitLimitExpiryEvent_frame (s : State) (r : ResId) (p : Port) :
    (waitLimitExpiryEvent r p s).inReset = s.inReset ∧ (waitLimitExpiryEvent r p s).resetSeenLow = s.resetSeenLow ∧
    (waitLimitExpiryEvent r p s).tb = s.tb ∧ (waitLimitExpiryEvent r p s).sched = s.sched ∧
    (waitLimitExpiryEvent r p s).chans = s.chans ∧ (waitLimitExpiryEvent r p s).lines = s.lines ∧
    (waitLimitExpiryEvent r p s).journal = s.journal ∧ (waitLimitExpiryEvent r p s).groups = s.groups ∧
    (waitLimitExpiryEvent r p s).ports = s.ports ∧ (waitLimitExpiryEvent r p s).queues = s.queues ∧
    (waitLimitExpiryEvent r p s).offers = s.offers ∧ (waitLimitExpiryEvent r p s).lineMsgs = s.lineMsgs ∧
    (waitLimitExpiryEvent r p s).lockMsgs = s.lockMsgs ∧ (waitLimitExpiryEvent r p s).pending = s.pending := by
  unfold waitLimitExpiryEvent
  repeat' first | split | dsimp only
  all_goals simp

@[simp] theorem endLeaseOf_frame (s : State) (p : Port) (r : ResId) :
    (endLeaseOf p s r).inReset = s.inReset ∧ (endLeaseOf p s r).resetSeenLow = s.resetSeenLow ∧ (endLeaseOf p s r).tb = s.tb ∧
    (endLeaseOf p s r).sched = s.sched ∧ (endLeaseOf p s r).chans = s.chans ∧ (endLeaseOf p s r).lines = s.lines ∧
    (endLeaseOf p s r).journal = s.journal ∧ (endLeaseOf p s r).groups = s.groups ∧ (endLeaseOf p s r).ports = s.ports ∧
    (endLeaseOf p s r).queues = s.queues ∧ (endLeaseOf p s r).offers = s.offers ∧ (endLeaseOf p s r).lineMsgs = s.lineMsgs ∧
    (endLeaseOf p s r).lockMsgs = s.lockMsgs ∧ (endLeaseOf p s r).pending = s.pending := by
  unfold endLeaseOf
  repeat' first | split | dsimp only
  all_goals simp

@[simp] theorem endLeases_frame (s : State) (p : Port) (rs : List ResId) :
    (rs.foldl (endLeaseOf p) s).inReset = s.inReset ∧ (rs.foldl (endLeaseOf p) s).resetSeenLow = s.resetSeenLow ∧
    (rs.foldl (endLeaseOf p) s).tb = s.tb ∧ (rs.foldl (endLeaseOf p) s).sched = s.sched ∧
    (rs.foldl (endLeaseOf p) s).chans = s.chans ∧ (rs.foldl (endLeaseOf p) s).lines = s.lines ∧
    (rs.foldl (endLeaseOf p) s).journal = s.journal ∧ (rs.foldl (endLeaseOf p) s).groups = s.groups ∧
    (rs.foldl (endLeaseOf p) s).ports = s.ports ∧ (rs.foldl (endLeaseOf p) s).queues = s.queues ∧
    (rs.foldl (endLeaseOf p) s).offers = s.offers ∧ (rs.foldl (endLeaseOf p) s).lineMsgs = s.lineMsgs ∧
    (rs.foldl (endLeaseOf p) s).lockMsgs = s.lockMsgs ∧ (rs.foldl (endLeaseOf p) s).pending = s.pending := by
  induction rs generalizing s with
  | nil => simp
  | cons x rs ih => simpa using ih (endLeaseOf p s x)

@[simp] theorem State.stampPurges_frame (s : State) (p : Port) :
    (s.stampPurges p).inReset = s.inReset ∧ (s.stampPurges p).resetSeenLow = s.resetSeenLow ∧ (s.stampPurges p).tb = s.tb ∧
    (s.stampPurges p).sched = s.sched ∧ (s.stampPurges p).chans = s.chans ∧ (s.stampPurges p).lines = s.lines ∧
    (s.stampPurges p).journal = s.journal ∧ (s.stampPurges p).groups = s.groups ∧ (s.stampPurges p).ports = s.ports ∧
    (s.stampPurges p).queues = s.queues ∧ (s.stampPurges p).posts = s.posts ∧ (s.stampPurges p).offers = s.offers ∧
    (s.stampPurges p).lineMsgs = s.lineMsgs ∧ (s.stampPurges p).lockMsgs = s.lockMsgs ∧
    (s.stampPurges p).clocks = s.clocks ∧
    (s.stampPurges p).pending = s.pending := by
  simp [State.stampPurges]

@[simp] theorem leaseTeardownEvent_frame (s : State) (p : Port) :
    (leaseTeardownEvent p s).inReset = s.inReset ∧ (leaseTeardownEvent p s).resetSeenLow = s.resetSeenLow ∧
    (leaseTeardownEvent p s).tb = s.tb ∧ (leaseTeardownEvent p s).sched = s.sched ∧ (leaseTeardownEvent p s).chans = s.chans ∧
    (leaseTeardownEvent p s).lines = s.lines ∧ (leaseTeardownEvent p s).journal = s.journal ∧
    (leaseTeardownEvent p s).groups = s.groups ∧ (leaseTeardownEvent p s).queues = s.queues ∧
    (leaseTeardownEvent p s).offers = s.offers ∧ (leaseTeardownEvent p s).lineMsgs = s.lineMsgs ∧
    (leaseTeardownEvent p s).lockMsgs = s.lockMsgs ∧ (leaseTeardownEvent p s).pending = s.pending := by
  unfold leaseTeardownEvent
  repeat' first | split | dsimp only
  all_goals simp

@[simp] theorem qualifyLine_frame (s : State) (i : LineId) (level : Level) :
    (qualifyLine i level s).inReset = s.inReset ∧ (qualifyLine i level s).resetSeenLow = s.resetSeenLow ∧
    (qualifyLine i level s).tb = s.tb ∧ (qualifyLine i level s).sched = s.sched ∧ (qualifyLine i level s).chans = s.chans ∧
    (qualifyLine i level s).leases = s.leases ∧ (qualifyLine i level s).journal = s.journal ∧
    (qualifyLine i level s).groups = s.groups ∧ (qualifyLine i level s).ports = s.ports ∧
    (qualifyLine i level s).queues = s.queues ∧ (qualifyLine i level s).posts = s.posts ∧
    (qualifyLine i level s).lockMsgs = s.lockMsgs ∧ (qualifyLine i level s).clocks = s.clocks ∧
    (qualifyLine i level s).pending = s.pending := by
  unfold qualifyLine
  repeat' first | split | dsimp only
  all_goals simp

@[simp] theorem sampleLine_frame (s : State) (i : LineId) (level : Level) :
    (sampleLine i level s).inReset = s.inReset ∧ (sampleLine i level s).resetSeenLow = s.resetSeenLow ∧
    (sampleLine i level s).tb = s.tb ∧ (sampleLine i level s).sched = s.sched ∧ (sampleLine i level s).chans = s.chans ∧
    (sampleLine i level s).leases = s.leases ∧ (sampleLine i level s).journal = s.journal ∧
    (sampleLine i level s).groups = s.groups ∧ (sampleLine i level s).ports = s.ports ∧
    (sampleLine i level s).queues = s.queues ∧ (sampleLine i level s).posts = s.posts ∧
    (sampleLine i level s).lockMsgs = s.lockMsgs ∧ (sampleLine i level s).clocks = s.clocks ∧
    (sampleLine i level s).pending = s.pending := by
  unfold sampleLine
  repeat' first | split | dsimp only
  all_goals simp

@[simp] theorem lineSampleEvent_frame (s : State) (i : LineId) (level : Level) :
    (lineSampleEvent i level s).inReset = s.inReset ∧ (lineSampleEvent i level s).resetSeenLow = s.resetSeenLow ∧
    (lineSampleEvent i level s).tb = s.tb ∧ (lineSampleEvent i level s).sched = s.sched ∧
    (lineSampleEvent i level s).chans = s.chans ∧ (lineSampleEvent i level s).leases = s.leases ∧
    (lineSampleEvent i level s).journal = s.journal ∧ (lineSampleEvent i level s).groups = s.groups ∧
    (lineSampleEvent i level s).ports = s.ports ∧ (lineSampleEvent i level s).queues = s.queues ∧
    (lineSampleEvent i level s).posts = s.posts ∧ (lineSampleEvent i level s).lockMsgs = s.lockMsgs ∧
    (lineSampleEvent i level s).clocks = s.clocks ∧ (lineSampleEvent i level s).pending = s.pending := by
  unfold lineSampleEvent
  repeat' first | split | dsimp only
  all_goals simp

@[simp] theorem qualifiedChangeEvent_frame (s : State) (i : LineId) (level : Level) :
    (qualifiedChangeEvent i level s).inReset = s.inReset ∧ (qualifiedChangeEvent i level s).resetSeenLow = s.resetSeenLow ∧
    (qualifiedChangeEvent i level s).tb = s.tb ∧ (qualifiedChangeEvent i level s).sched = s.sched ∧
    (qualifiedChangeEvent i level s).chans = s.chans ∧ (qualifiedChangeEvent i level s).leases = s.leases ∧
    (qualifiedChangeEvent i level s).journal = s.journal ∧ (qualifiedChangeEvent i level s).groups = s.groups ∧
    (qualifiedChangeEvent i level s).ports = s.ports ∧ (qualifiedChangeEvent i level s).queues = s.queues ∧
    (qualifiedChangeEvent i level s).posts = s.posts ∧ (qualifiedChangeEvent i level s).lockMsgs = s.lockMsgs ∧
    (qualifiedChangeEvent i level s).clocks = s.clocks ∧ (qualifiedChangeEvent i level s).pending = s.pending := by
  unfold qualifiedChangeEvent
  repeat' first | split | dsimp only
  all_goals simp

@[simp] theorem lineConfigRequest_frame (s : State) (p : Port) (payload : List Byte) :
    (lineConfigRequest p payload s).1.inReset = s.inReset ∧ (lineConfigRequest p payload s).1.resetSeenLow = s.resetSeenLow ∧
    (lineConfigRequest p payload s).1.tb = s.tb ∧ (lineConfigRequest p payload s).1.sched = s.sched ∧
    (lineConfigRequest p payload s).1.chans = s.chans ∧ (lineConfigRequest p payload s).1.leases = s.leases ∧
    (lineConfigRequest p payload s).1.journal = s.journal ∧ (lineConfigRequest p payload s).1.groups = s.groups ∧
    (lineConfigRequest p payload s).1.ports = s.ports ∧ (lineConfigRequest p payload s).1.queues = s.queues ∧
    (lineConfigRequest p payload s).1.posts = s.posts ∧ (lineConfigRequest p payload s).1.offers = s.offers ∧
    (lineConfigRequest p payload s).1.lineMsgs = s.lineMsgs ∧ (lineConfigRequest p payload s).1.lockMsgs = s.lockMsgs ∧
    (lineConfigRequest p payload s).1.clocks = s.clocks ∧ (lineConfigRequest p payload s).1.pending = s.pending := by
  unfold lineConfigRequest
  repeat' first | split | dsimp only
  all_goals simp

@[simp] theorem linesRequest_frame (s : State) (payload : List Byte) :
    (linesRequest payload s).1.inReset = s.inReset ∧ (linesRequest payload s).1.resetSeenLow = s.resetSeenLow ∧
    (linesRequest payload s).1.tb = s.tb ∧ (linesRequest payload s).1.sched = s.sched ∧
    (linesRequest payload s).1.chans = s.chans ∧ (linesRequest payload s).1.leases = s.leases ∧
    (linesRequest payload s).1.lines = s.lines ∧ (linesRequest payload s).1.journal = s.journal ∧
    (linesRequest payload s).1.groups = s.groups ∧ (linesRequest payload s).1.ports = s.ports ∧
    (linesRequest payload s).1.queues = s.queues ∧ (linesRequest payload s).1.posts = s.posts ∧
    (linesRequest payload s).1.offers = s.offers ∧ (linesRequest payload s).1.lineMsgs = s.lineMsgs ∧
    (linesRequest payload s).1.lockMsgs = s.lockMsgs ∧ (linesRequest payload s).1.clocks = s.clocks ∧
    (linesRequest payload s).1.pending = s.pending := by
  unfold linesRequest
  repeat' first | split | dsimp only
  all_goals simp

@[simp] theorem readyCheck_frame (s : State) (e : JournalEntry) (p : Port) :
    (readyCheck e s p).inReset = s.inReset ∧ (readyCheck e s p).resetSeenLow = s.resetSeenLow ∧ (readyCheck e s p).tb = s.tb ∧
    (readyCheck e s p).sched = s.sched ∧ (readyCheck e s p).chans = s.chans ∧ (readyCheck e s p).leases = s.leases ∧
    (readyCheck e s p).lines = s.lines ∧ (readyCheck e s p).journal = s.journal ∧ (readyCheck e s p).groups = s.groups ∧
    (readyCheck e s p).ports = s.ports ∧ (readyCheck e s p).offers = s.offers ∧ (readyCheck e s p).lineMsgs = s.lineMsgs ∧
    (readyCheck e s p).lockMsgs = s.lockMsgs ∧ (readyCheck e s p).pending = s.pending := by
  unfold readyCheck
  repeat' first | split | dsimp only
  all_goals simp

@[simp] theorem readyChecks_frame (s : State) (e : JournalEntry) (ps : List Port) :
    (ps.foldl (readyCheck e) s).inReset = s.inReset ∧ (ps.foldl (readyCheck e) s).resetSeenLow = s.resetSeenLow ∧
    (ps.foldl (readyCheck e) s).tb = s.tb ∧ (ps.foldl (readyCheck e) s).sched = s.sched ∧
    (ps.foldl (readyCheck e) s).chans = s.chans ∧ (ps.foldl (readyCheck e) s).leases = s.leases ∧
    (ps.foldl (readyCheck e) s).lines = s.lines ∧ (ps.foldl (readyCheck e) s).journal = s.journal ∧
    (ps.foldl (readyCheck e) s).groups = s.groups ∧ (ps.foldl (readyCheck e) s).ports = s.ports ∧
    (ps.foldl (readyCheck e) s).offers = s.offers ∧ (ps.foldl (readyCheck e) s).lineMsgs = s.lineMsgs ∧
    (ps.foldl (readyCheck e) s).lockMsgs = s.lockMsgs ∧ (ps.foldl (readyCheck e) s).pending = s.pending := by
  induction ps generalizing s with
  | nil => simp
  | cons x ps ih => simpa using ih (readyCheck e s x)

@[simp] theorem storeEntry_frame (s : State) (body : EntryBody) :
    (storeEntry body s).inReset = s.inReset ∧ (storeEntry body s).resetSeenLow = s.resetSeenLow ∧
    (storeEntry body s).tb = s.tb ∧ (storeEntry body s).sched = s.sched ∧ (storeEntry body s).chans = s.chans ∧
    (storeEntry body s).leases = s.leases ∧ (storeEntry body s).lines = s.lines ∧ (storeEntry body s).groups = s.groups ∧
    (storeEntry body s).ports = s.ports ∧ (storeEntry body s).offers = s.offers ∧ (storeEntry body s).lineMsgs = s.lineMsgs ∧
    (storeEntry body s).lockMsgs = s.lockMsgs ∧ (storeEntry body s).pending = s.pending := by
  unfold storeEntry
  repeat' first | split | dsimp only
  all_goals simp

@[simp] theorem storeGap_frame (s : State) :
    (storeGap s).inReset = s.inReset ∧ (storeGap s).resetSeenLow = s.resetSeenLow ∧ (storeGap s).tb = s.tb ∧
    (storeGap s).sched = s.sched ∧ (storeGap s).chans = s.chans ∧ (storeGap s).leases = s.leases ∧
    (storeGap s).lines = s.lines ∧ (storeGap s).groups = s.groups ∧ (storeGap s).ports = s.ports ∧
    (storeGap s).offers = s.offers ∧ (storeGap s).lineMsgs = s.lineMsgs ∧ (storeGap s).lockMsgs = s.lockMsgs ∧
    (storeGap s).pending = s.pending := by
  unfold storeGap
  repeat' first | split | dsimp only
  all_goals simp

@[simp] theorem takeOffer_frame (s : State) (o : OfferBody) :
    (takeOffer o s).inReset = s.inReset ∧ (takeOffer o s).resetSeenLow = s.resetSeenLow ∧ (takeOffer o s).tb = s.tb ∧
    (takeOffer o s).sched = s.sched ∧ (takeOffer o s).chans = s.chans ∧ (takeOffer o s).leases = s.leases ∧
    (takeOffer o s).lines = s.lines ∧ (takeOffer o s).groups = s.groups ∧ (takeOffer o s).ports = s.ports ∧
    (takeOffer o s).offers = s.offers ∧ (takeOffer o s).lineMsgs = s.lineMsgs ∧ (takeOffer o s).lockMsgs = s.lockMsgs ∧
    (takeOffer o s).pending = s.pending := by
  unfold takeOffer
  repeat' first | split | dsimp only
  all_goals simp

@[simp] theorem journalOfferEvent_frame (s : State) (src : OfferSource) :
    (journalOfferEvent src s).inReset = s.inReset ∧ (journalOfferEvent src s).resetSeenLow = s.resetSeenLow ∧
    (journalOfferEvent src s).tb = s.tb ∧ (journalOfferEvent src s).sched = s.sched ∧
    (journalOfferEvent src s).chans = s.chans ∧ (journalOfferEvent src s).leases = s.leases ∧
    (journalOfferEvent src s).lines = s.lines ∧ (journalOfferEvent src s).groups = s.groups ∧
    (journalOfferEvent src s).ports = s.ports ∧ (journalOfferEvent src s).lineMsgs = s.lineMsgs ∧
    (journalOfferEvent src s).lockMsgs = s.lockMsgs ∧ (journalOfferEvent src s).pending = s.pending := by
  unfold journalOfferEvent
  repeat' first | split | dsimp only
  all_goals simp

@[simp] theorem subscribeRequest_frame (s : State) (p : Port) (payload : List Byte) :
    (subscribeRequest p payload s).1.inReset = s.inReset ∧ (subscribeRequest p payload s).1.resetSeenLow = s.resetSeenLow ∧
    (subscribeRequest p payload s).1.tb = s.tb ∧ (subscribeRequest p payload s).1.sched = s.sched ∧
    (subscribeRequest p payload s).1.chans = s.chans ∧ (subscribeRequest p payload s).1.leases = s.leases ∧
    (subscribeRequest p payload s).1.lines = s.lines ∧ (subscribeRequest p payload s).1.groups = s.groups ∧
    (subscribeRequest p payload s).1.ports = s.ports ∧ (subscribeRequest p payload s).1.queues = s.queues ∧
    (subscribeRequest p payload s).1.posts = s.posts ∧ (subscribeRequest p payload s).1.offers = s.offers ∧
    (subscribeRequest p payload s).1.lineMsgs = s.lineMsgs ∧ (subscribeRequest p payload s).1.lockMsgs = s.lockMsgs ∧
    (subscribeRequest p payload s).1.clocks = s.clocks ∧ (subscribeRequest p payload s).1.pending = s.pending := by
  unfold subscribeRequest
  repeat' first | split | dsimp only
  all_goals simp

@[simp] theorem unsubscribeRequest_frame (s : State) (p : Port) (payload : List Byte) :
    (unsubscribeRequest p payload s).1.inReset = s.inReset ∧ (unsubscribeRequest p payload s).1.resetSeenLow = s.resetSeenLow ∧
    (unsubscribeRequest p payload s).1.tb = s.tb ∧ (unsubscribeRequest p payload s).1.sched = s.sched ∧
    (unsubscribeRequest p payload s).1.chans = s.chans ∧ (unsubscribeRequest p payload s).1.leases = s.leases ∧
    (unsubscribeRequest p payload s).1.lines = s.lines ∧ (unsubscribeRequest p payload s).1.groups = s.groups ∧
    (unsubscribeRequest p payload s).1.ports = s.ports ∧ (unsubscribeRequest p payload s).1.offers = s.offers ∧
    (unsubscribeRequest p payload s).1.lineMsgs = s.lineMsgs ∧ (unsubscribeRequest p payload s).1.lockMsgs = s.lockMsgs ∧
    (unsubscribeRequest p payload s).1.pending = s.pending := by
  unfold unsubscribeRequest
  repeat' first | split | dsimp only
  all_goals simp

@[simp] theorem settleRead_frame (s : State) (p : Port) (entries : List JournalEntry) :
    (settleRead p entries s).1.inReset = s.inReset ∧ (settleRead p entries s).1.resetSeenLow = s.resetSeenLow ∧
    (settleRead p entries s).1.tb = s.tb ∧ (settleRead p entries s).1.sched = s.sched ∧
    (settleRead p entries s).1.chans = s.chans ∧ (settleRead p entries s).1.leases = s.leases ∧
    (settleRead p entries s).1.lines = s.lines ∧ (settleRead p entries s).1.groups = s.groups ∧
    (settleRead p entries s).1.ports = s.ports ∧ (settleRead p entries s).1.posts = s.posts ∧
    (settleRead p entries s).1.offers = s.offers ∧ (settleRead p entries s).1.lineMsgs = s.lineMsgs ∧
    (settleRead p entries s).1.lockMsgs = s.lockMsgs ∧ (settleRead p entries s).1.clocks = s.clocks ∧
    (settleRead p entries s).1.pending = s.pending := by
  unfold settleRead
  repeat' first | split | dsimp only
  all_goals simp

@[simp] theorem readRequest_frame (s : State) (p : Port) (payload : List Byte) :
    (readRequest p payload s).1.inReset = s.inReset ∧ (readRequest p payload s).1.resetSeenLow = s.resetSeenLow ∧
    (readRequest p payload s).1.tb = s.tb ∧ (readRequest p payload s).1.sched = s.sched ∧
    (readRequest p payload s).1.chans = s.chans ∧ (readRequest p payload s).1.leases = s.leases ∧
    (readRequest p payload s).1.lines = s.lines ∧ (readRequest p payload s).1.groups = s.groups ∧
    (readRequest p payload s).1.ports = s.ports ∧ (readRequest p payload s).1.offers = s.offers ∧
    (readRequest p payload s).1.lineMsgs = s.lineMsgs ∧ (readRequest p payload s).1.lockMsgs = s.lockMsgs ∧
    (readRequest p payload s).1.pending = s.pending := by
  unfold readRequest
  repeat' first | split | dsimp only
  all_goals simp

@[simp] theorem journalTeardownEvent_frame (s : State) (p : Port) :
    (journalTeardownEvent p s).inReset = s.inReset ∧ (journalTeardownEvent p s).resetSeenLow = s.resetSeenLow ∧
    (journalTeardownEvent p s).tb = s.tb ∧ (journalTeardownEvent p s).sched = s.sched ∧
    (journalTeardownEvent p s).chans = s.chans ∧ (journalTeardownEvent p s).leases = s.leases ∧
    (journalTeardownEvent p s).lines = s.lines ∧ (journalTeardownEvent p s).groups = s.groups ∧
    (journalTeardownEvent p s).offers = s.offers ∧ (journalTeardownEvent p s).lineMsgs = s.lineMsgs ∧
    (journalTeardownEvent p s).lockMsgs = s.lockMsgs ∧ (journalTeardownEvent p s).pending = s.pending := by
  unfold journalTeardownEvent
  repeat' first | split | dsimp only
  all_goals simp

@[simp] theorem tripGroup_frame (s : State) (g : GroupId) (i : LineId) :
    (tripGroup g i s).inReset = s.inReset ∧ (tripGroup g i s).resetSeenLow = s.resetSeenLow ∧ (tripGroup g i s).tb = s.tb ∧
    (tripGroup g i s).sched = s.sched ∧ (tripGroup g i s).chans = s.chans ∧ (tripGroup g i s).leases = s.leases ∧
    (tripGroup g i s).lines = s.lines ∧ (tripGroup g i s).journal = s.journal ∧ (tripGroup g i s).ports = s.ports ∧
    (tripGroup g i s).queues = s.queues ∧ (tripGroup g i s).lineMsgs = s.lineMsgs ∧ (tripGroup g i s).pending = s.pending := by
  unfold tripGroup
  repeat' first | split | dsimp only
  all_goals simp

@[simp] theorem groupLineChangeEvent_frame (s : State) (g : GroupId) (i : LineId) :
    (groupLineChangeEvent g i s).inReset = s.inReset ∧ (groupLineChangeEvent g i s).resetSeenLow = s.resetSeenLow ∧
    (groupLineChangeEvent g i s).tb = s.tb ∧ (groupLineChangeEvent g i s).sched = s.sched ∧
    (groupLineChangeEvent g i s).chans = s.chans ∧ (groupLineChangeEvent g i s).leases = s.leases ∧
    (groupLineChangeEvent g i s).lines = s.lines ∧ (groupLineChangeEvent g i s).journal = s.journal ∧
    (groupLineChangeEvent g i s).ports = s.ports ∧ (groupLineChangeEvent g i s).queues = s.queues ∧
    (groupLineChangeEvent g i s).pending = s.pending := by
  unfold groupLineChangeEvent
  repeat' first | split | dsimp only
  all_goals simp

@[simp] theorem lockReportEvent_frame (s : State) (g : GroupId) :
    (lockReportEvent g s).inReset = s.inReset ∧ (lockReportEvent g s).resetSeenLow = s.resetSeenLow ∧
    (lockReportEvent g s).tb = s.tb ∧ (lockReportEvent g s).sched = s.sched ∧ (lockReportEvent g s).chans = s.chans ∧
    (lockReportEvent g s).leases = s.leases ∧ (lockReportEvent g s).lines = s.lines ∧
    (lockReportEvent g s).journal = s.journal ∧ (lockReportEvent g s).ports = s.ports ∧
    (lockReportEvent g s).queues = s.queues ∧ (lockReportEvent g s).posts = s.posts ∧ (lockReportEvent g s).offers = s.offers ∧
    (lockReportEvent g s).lineMsgs = s.lineMsgs ∧ (lockReportEvent g s).lockMsgs = s.lockMsgs ∧
    (lockReportEvent g s).pending = s.pending := by
  unfold lockReportEvent
  repeat' first | split | dsimp only
  all_goals simp

@[simp] theorem tripConfigRequest_frame (s : State) (p : Port) (payload : List Byte) :
    (tripConfigRequest p payload s).1.inReset = s.inReset ∧ (tripConfigRequest p payload s).1.resetSeenLow = s.resetSeenLow ∧
    (tripConfigRequest p payload s).1.tb = s.tb ∧ (tripConfigRequest p payload s).1.sched = s.sched ∧
    (tripConfigRequest p payload s).1.chans = s.chans ∧ (tripConfigRequest p payload s).1.leases = s.leases ∧
    (tripConfigRequest p payload s).1.lines = s.lines ∧ (tripConfigRequest p payload s).1.journal = s.journal ∧
    (tripConfigRequest p payload s).1.ports = s.ports ∧ (tripConfigRequest p payload s).1.queues = s.queues ∧
    (tripConfigRequest p payload s).1.posts = s.posts ∧ (tripConfigRequest p payload s).1.offers = s.offers ∧
    (tripConfigRequest p payload s).1.lineMsgs = s.lineMsgs ∧ (tripConfigRequest p payload s).1.lockMsgs = s.lockMsgs ∧
    (tripConfigRequest p payload s).1.clocks = s.clocks ∧ (tripConfigRequest p payload s).1.pending = s.pending := by
  unfold tripConfigRequest
  repeat' first | split | dsimp only
  all_goals simp

@[simp] theorem leaveTripped_frame (s : State) (g : GroupId) (st : GroupState) :
    (leaveTripped g st s).inReset = s.inReset ∧ (leaveTripped g st s).resetSeenLow = s.resetSeenLow ∧
    (leaveTripped g st s).tb = s.tb ∧ (leaveTripped g st s).sched = s.sched ∧ (leaveTripped g st s).chans = s.chans ∧
    (leaveTripped g st s).leases = s.leases ∧ (leaveTripped g st s).lines = s.lines ∧
    (leaveTripped g st s).journal = s.journal ∧ (leaveTripped g st s).ports = s.ports ∧
    (leaveTripped g st s).queues = s.queues ∧ (leaveTripped g st s).posts = s.posts ∧ (leaveTripped g st s).offers = s.offers ∧
    (leaveTripped g st s).lineMsgs = s.lineMsgs ∧ (leaveTripped g st s).clocks = s.clocks ∧
    (leaveTripped g st s).pending = s.pending := by
  unfold leaveTripped
  repeat' first | split | dsimp only
  all_goals simp

@[simp] theorem armRequest_frame (s : State) (p : Port) (payload : List Byte) :
    (armRequest p payload s).1.inReset = s.inReset ∧ (armRequest p payload s).1.resetSeenLow = s.resetSeenLow ∧
    (armRequest p payload s).1.tb = s.tb ∧ (armRequest p payload s).1.sched = s.sched ∧
    (armRequest p payload s).1.chans = s.chans ∧ (armRequest p payload s).1.leases = s.leases ∧
    (armRequest p payload s).1.lines = s.lines ∧ (armRequest p payload s).1.journal = s.journal ∧
    (armRequest p payload s).1.ports = s.ports ∧ (armRequest p payload s).1.queues = s.queues ∧
    (armRequest p payload s).1.posts = s.posts ∧ (armRequest p payload s).1.offers = s.offers ∧
    (armRequest p payload s).1.lineMsgs = s.lineMsgs ∧ (armRequest p payload s).1.clocks = s.clocks ∧
    (armRequest p payload s).1.pending = s.pending := by
  unfold armRequest
  repeat' first | split | dsimp only
  all_goals simp

@[simp] theorem disarmRequest_frame (s : State) (p : Port) (payload : List Byte) :
    (disarmRequest p payload s).1.inReset = s.inReset ∧ (disarmRequest p payload s).1.resetSeenLow = s.resetSeenLow ∧
    (disarmRequest p payload s).1.tb = s.tb ∧ (disarmRequest p payload s).1.sched = s.sched ∧
    (disarmRequest p payload s).1.chans = s.chans ∧ (disarmRequest p payload s).1.leases = s.leases ∧
    (disarmRequest p payload s).1.lines = s.lines ∧ (disarmRequest p payload s).1.journal = s.journal ∧
    (disarmRequest p payload s).1.ports = s.ports ∧ (disarmRequest p payload s).1.queues = s.queues ∧
    (disarmRequest p payload s).1.posts = s.posts ∧ (disarmRequest p payload s).1.offers = s.offers ∧
    (disarmRequest p payload s).1.lineMsgs = s.lineMsgs ∧ (disarmRequest p payload s).1.clocks = s.clocks ∧
    (disarmRequest p payload s).1.pending = s.pending := by
  unfold disarmRequest
  repeat' first | split | dsimp only
  all_goals simp

@[simp] theorem tripsRequest_frame (s : State) (payload : List Byte) :
    (tripsRequest payload s).1.inReset = s.inReset ∧ (tripsRequest payload s).1.resetSeenLow = s.resetSeenLow ∧
    (tripsRequest payload s).1.tb = s.tb ∧ (tripsRequest payload s).1.sched = s.sched ∧
    (tripsRequest payload s).1.chans = s.chans ∧ (tripsRequest payload s).1.leases = s.leases ∧
    (tripsRequest payload s).1.lines = s.lines ∧ (tripsRequest payload s).1.journal = s.journal ∧
    (tripsRequest payload s).1.groups = s.groups ∧ (tripsRequest payload s).1.ports = s.ports ∧
    (tripsRequest payload s).1.queues = s.queues ∧ (tripsRequest payload s).1.posts = s.posts ∧
    (tripsRequest payload s).1.offers = s.offers ∧ (tripsRequest payload s).1.lineMsgs = s.lineMsgs ∧
    (tripsRequest payload s).1.lockMsgs = s.lockMsgs ∧ (tripsRequest payload s).1.clocks = s.clocks ∧
    (tripsRequest payload s).1.pending = s.pending := by
  unfold tripsRequest
  repeat' first | split | dsimp only
  all_goals simp

@[simp] theorem noticePostEvent_frame (s : State) (p : Port) (b : PostBlock) :
    (noticePostEvent p b s).inReset = s.inReset ∧ (noticePostEvent p b s).resetSeenLow = s.resetSeenLow ∧
    (noticePostEvent p b s).tb = s.tb ∧ (noticePostEvent p b s).sched = s.sched ∧ (noticePostEvent p b s).chans = s.chans ∧
    (noticePostEvent p b s).leases = s.leases ∧ (noticePostEvent p b s).lines = s.lines ∧
    (noticePostEvent p b s).journal = s.journal ∧ (noticePostEvent p b s).groups = s.groups ∧
    (noticePostEvent p b s).ports = s.ports ∧ (noticePostEvent p b s).offers = s.offers ∧
    (noticePostEvent p b s).lineMsgs = s.lineMsgs ∧ (noticePostEvent p b s).lockMsgs = s.lockMsgs ∧
    (noticePostEvent p b s).pending = s.pending := by
  unfold noticePostEvent
  repeat' first | split | dsimp only
  all_goals simp

@[simp] theorem noticesRequest_frame (s : State) (p : Port) (payload : List Byte) :
    (noticesRequest p payload s).1.inReset = s.inReset ∧ (noticesRequest p payload s).1.resetSeenLow = s.resetSeenLow ∧
    (noticesRequest p payload s).1.tb = s.tb ∧ (noticesRequest p payload s).1.sched = s.sched ∧
    (noticesRequest p payload s).1.chans = s.chans ∧ (noticesRequest p payload s).1.leases = s.leases ∧
    (noticesRequest p payload s).1.lines = s.lines ∧ (noticesRequest p payload s).1.journal = s.journal ∧
    (noticesRequest p payload s).1.groups = s.groups ∧ (noticesRequest p payload s).1.ports = s.ports ∧
    (noticesRequest p payload s).1.posts = s.posts ∧ (noticesRequest p payload s).1.offers = s.offers ∧
    (noticesRequest p payload s).1.lineMsgs = s.lineMsgs ∧ (noticesRequest p payload s).1.lockMsgs = s.lockMsgs ∧
    (noticesRequest p payload s).1.clocks = s.clocks ∧ (noticesRequest p payload s).1.pending = s.pending := by
  unfold noticesRequest
  repeat' first | split | dsimp only
  all_goals simp

@[simp] theorem noticeTeardownEvent_frame (s : State) (p : Port) :
    (noticeTeardownEvent p s).inReset = s.inReset ∧ (noticeTeardownEvent p s).resetSeenLow = s.resetSeenLow ∧
    (noticeTeardownEvent p s).tb = s.tb ∧ (noticeTeardownEvent p s).sched = s.sched ∧
    (noticeTeardownEvent p s).chans = s.chans ∧ (noticeTeardownEvent p s).leases = s.leases ∧
    (noticeTeardownEvent p s).lines = s.lines ∧ (noticeTeardownEvent p s).journal = s.journal ∧
    (noticeTeardownEvent p s).groups = s.groups ∧ (noticeTeardownEvent p s).posts = s.posts ∧
    (noticeTeardownEvent p s).offers = s.offers ∧ (noticeTeardownEvent p s).lineMsgs = s.lineMsgs ∧
    (noticeTeardownEvent p s).lockMsgs = s.lockMsgs ∧ (noticeTeardownEvent p s).pending = s.pending := by
  unfold noticeTeardownEvent
  repeat' first | split | dsimp only
  all_goals simp

@[simp] theorem transactionStartEvent_frame (s : State) (p : Port) :
    (transactionStartEvent p s).inReset = s.inReset ∧ (transactionStartEvent p s).resetSeenLow = s.resetSeenLow ∧
    (transactionStartEvent p s).tb = s.tb ∧ (transactionStartEvent p s).sched = s.sched ∧
    (transactionStartEvent p s).chans = s.chans ∧ (transactionStartEvent p s).leases = s.leases ∧
    (transactionStartEvent p s).lines = s.lines ∧ (transactionStartEvent p s).journal = s.journal ∧
    (transactionStartEvent p s).groups = s.groups ∧ (transactionStartEvent p s).queues = s.queues ∧
    (transactionStartEvent p s).posts = s.posts ∧ (transactionStartEvent p s).offers = s.offers ∧
    (transactionStartEvent p s).lineMsgs = s.lineMsgs ∧ (transactionStartEvent p s).lockMsgs = s.lockMsgs ∧
    (transactionStartEvent p s).clocks = s.clocks ∧ (transactionStartEvent p s).pending = s.pending := by
  unfold transactionStartEvent
  repeat' first | split | dsimp only
  all_goals simp

@[simp] theorem engineTakeEvent_frame (s : State) (p : Port) :
    (engineTakeEvent p s).inReset = s.inReset ∧ (engineTakeEvent p s).resetSeenLow = s.resetSeenLow ∧
    (engineTakeEvent p s).tb = s.tb ∧ (engineTakeEvent p s).sched = s.sched ∧ (engineTakeEvent p s).chans = s.chans ∧
    (engineTakeEvent p s).leases = s.leases ∧ (engineTakeEvent p s).lines = s.lines ∧
    (engineTakeEvent p s).journal = s.journal ∧ (engineTakeEvent p s).groups = s.groups ∧
    (engineTakeEvent p s).queues = s.queues ∧ (engineTakeEvent p s).posts = s.posts ∧ (engineTakeEvent p s).offers = s.offers ∧
    (engineTakeEvent p s).lineMsgs = s.lineMsgs ∧ (engineTakeEvent p s).lockMsgs = s.lockMsgs ∧
    (engineTakeEvent p s).clocks = s.clocks ∧ (engineTakeEvent p s).pending = s.pending := by
  unfold engineTakeEvent
  repeat' first | split | dsimp only
  all_goals simp

@[simp] theorem lapseEvent_frame (s : State) (p : Port) :
    (lapseEvent p s).inReset = s.inReset ∧ (lapseEvent p s).resetSeenLow = s.resetSeenLow ∧ (lapseEvent p s).tb = s.tb ∧
    (lapseEvent p s).sched = s.sched ∧ (lapseEvent p s).chans = s.chans ∧ (lapseEvent p s).leases = s.leases ∧
    (lapseEvent p s).lines = s.lines ∧ (lapseEvent p s).journal = s.journal ∧ (lapseEvent p s).groups = s.groups ∧
    (lapseEvent p s).queues = s.queues ∧ (lapseEvent p s).posts = s.posts ∧ (lapseEvent p s).offers = s.offers ∧
    (lapseEvent p s).lineMsgs = s.lineMsgs ∧ (lapseEvent p s).lockMsgs = s.lockMsgs ∧ (lapseEvent p s).clocks = s.clocks ∧
    (lapseEvent p s).pending = s.pending := by
  unfold lapseEvent
  repeat' first | split | dsimp only
  all_goals simp

@[simp] theorem detachEvent_frame (s : State) (p : Port) :
    (detachEvent p s).inReset = s.inReset ∧ (detachEvent p s).resetSeenLow = s.resetSeenLow ∧ (detachEvent p s).tb = s.tb ∧
    (detachEvent p s).sched = s.sched ∧ (detachEvent p s).chans = s.chans ∧ (detachEvent p s).leases = s.leases ∧
    (detachEvent p s).lines = s.lines ∧ (detachEvent p s).journal = s.journal ∧ (detachEvent p s).groups = s.groups ∧
    (detachEvent p s).queues = s.queues ∧ (detachEvent p s).posts = s.posts ∧ (detachEvent p s).offers = s.offers ∧
    (detachEvent p s).lineMsgs = s.lineMsgs ∧ (detachEvent p s).lockMsgs = s.lockMsgs ∧ (detachEvent p s).clocks = s.clocks ∧
    (detachEvent p s).pending = s.pending := by
  unfold detachEvent
  repeat' first | split | dsimp only
  all_goals simp

@[simp] theorem frameJudgeEvent_frame (s : State) (p : Port) (bytes : List Byte) :
    (frameJudgeEvent p bytes s).inReset = s.inReset ∧ (frameJudgeEvent p bytes s).resetSeenLow = s.resetSeenLow ∧
    (frameJudgeEvent p bytes s).tb = s.tb ∧ (frameJudgeEvent p bytes s).sched = s.sched ∧
    (frameJudgeEvent p bytes s).chans = s.chans ∧ (frameJudgeEvent p bytes s).leases = s.leases ∧
    (frameJudgeEvent p bytes s).lines = s.lines ∧ (frameJudgeEvent p bytes s).journal = s.journal ∧
    (frameJudgeEvent p bytes s).groups = s.groups ∧ (frameJudgeEvent p bytes s).queues = s.queues ∧
    (frameJudgeEvent p bytes s).posts = s.posts ∧ (frameJudgeEvent p bytes s).offers = s.offers ∧
    (frameJudgeEvent p bytes s).lineMsgs = s.lineMsgs ∧ (frameJudgeEvent p bytes s).lockMsgs = s.lockMsgs ∧
    (frameJudgeEvent p bytes s).clocks = s.clocks ∧ (frameJudgeEvent p bytes s).pending = s.pending := by
  unfold frameJudgeEvent
  repeat' first | split | dsimp only
  all_goals simp

@[simp] theorem transactionEndEvent_frame (s : State) (p : Port) (bytes : List Byte) :
    (transactionEndEvent p bytes s).inReset = s.inReset ∧ (transactionEndEvent p bytes s).resetSeenLow = s.resetSeenLow ∧
    (transactionEndEvent p bytes s).tb = s.tb ∧ (transactionEndEvent p bytes s).sched = s.sched ∧
    (transactionEndEvent p bytes s).chans = s.chans ∧ (transactionEndEvent p bytes s).leases = s.leases ∧
    (transactionEndEvent p bytes s).lines = s.lines ∧ (transactionEndEvent p bytes s).journal = s.journal ∧
    (transactionEndEvent p bytes s).groups = s.groups ∧ (transactionEndEvent p bytes s).queues = s.queues ∧
    (transactionEndEvent p bytes s).posts = s.posts ∧ (transactionEndEvent p bytes s).offers = s.offers ∧
    (transactionEndEvent p bytes s).lineMsgs = s.lineMsgs ∧ (transactionEndEvent p bytes s).lockMsgs = s.lockMsgs ∧
    (transactionEndEvent p bytes s).clocks = s.clocks ∧ (transactionEndEvent p bytes s).pending = s.pending := by
  unfold transactionEndEvent
  repeat' first | split | dsimp only
  all_goals simp

@[simp] theorem answerTakenEvent_frame (s : State) (p : Port) :
    (answerTakenEvent p s).inReset = s.inReset ∧ (answerTakenEvent p s).resetSeenLow = s.resetSeenLow ∧
    (answerTakenEvent p s).tb = s.tb ∧ (answerTakenEvent p s).sched = s.sched ∧ (answerTakenEvent p s).chans = s.chans ∧
    (answerTakenEvent p s).leases = s.leases ∧ (answerTakenEvent p s).lines = s.lines ∧
    (answerTakenEvent p s).journal = s.journal ∧ (answerTakenEvent p s).groups = s.groups ∧
    (answerTakenEvent p s).queues = s.queues ∧ (answerTakenEvent p s).posts = s.posts ∧
    (answerTakenEvent p s).offers = s.offers ∧ (answerTakenEvent p s).lineMsgs = s.lineMsgs ∧
    (answerTakenEvent p s).lockMsgs = s.lockMsgs ∧ (answerTakenEvent p s).pending = s.pending := by
  unfold answerTakenEvent
  repeat' first | split | dsimp only
  all_goals simp

@[simp] theorem teardownReportEvent_frame (s : State) (p : Port) (b : PartBlock) :
    (teardownReportEvent p b s).inReset = s.inReset ∧ (teardownReportEvent p b s).resetSeenLow = s.resetSeenLow ∧
    (teardownReportEvent p b s).tb = s.tb ∧ (teardownReportEvent p b s).sched = s.sched ∧
    (teardownReportEvent p b s).chans = s.chans ∧ (teardownReportEvent p b s).leases = s.leases ∧
    (teardownReportEvent p b s).lines = s.lines ∧ (teardownReportEvent p b s).journal = s.journal ∧
    (teardownReportEvent p b s).groups = s.groups ∧ (teardownReportEvent p b s).queues = s.queues ∧
    (teardownReportEvent p b s).posts = s.posts ∧ (teardownReportEvent p b s).offers = s.offers ∧
    (teardownReportEvent p b s).lineMsgs = s.lineMsgs ∧ (teardownReportEvent p b s).lockMsgs = s.lockMsgs ∧
    (teardownReportEvent p b s).pending = s.pending := by
  unfold teardownReportEvent
  repeat' first | split | dsimp only
  all_goals simp

@[simp] theorem attachRequest_frame (s : State) (p : Port) (payload : List Byte) :
    (attachRequest p payload s).1.inReset = s.inReset ∧ (attachRequest p payload s).1.resetSeenLow = s.resetSeenLow ∧
    (attachRequest p payload s).1.tb = s.tb ∧ (attachRequest p payload s).1.sched = s.sched ∧
    (attachRequest p payload s).1.chans = s.chans ∧ (attachRequest p payload s).1.leases = s.leases ∧
    (attachRequest p payload s).1.lines = s.lines ∧ (attachRequest p payload s).1.journal = s.journal ∧
    (attachRequest p payload s).1.groups = s.groups ∧ (attachRequest p payload s).1.queues = s.queues ∧
    (attachRequest p payload s).1.posts = s.posts ∧ (attachRequest p payload s).1.offers = s.offers ∧
    (attachRequest p payload s).1.lineMsgs = s.lineMsgs ∧ (attachRequest p payload s).1.lockMsgs = s.lockMsgs ∧
    (attachRequest p payload s).1.clocks = s.clocks ∧ (attachRequest p payload s).1.pending = s.pending := by
  unfold attachRequest
  repeat' first | split | dsimp only
  all_goals simp

@[simp] theorem identRequest_frame (s : State) (payload : List Byte) :
    (identRequest payload s).1.inReset = s.inReset ∧ (identRequest payload s).1.resetSeenLow = s.resetSeenLow ∧
    (identRequest payload s).1.tb = s.tb ∧ (identRequest payload s).1.sched = s.sched ∧
    (identRequest payload s).1.chans = s.chans ∧ (identRequest payload s).1.leases = s.leases ∧
    (identRequest payload s).1.lines = s.lines ∧ (identRequest payload s).1.journal = s.journal ∧
    (identRequest payload s).1.groups = s.groups ∧ (identRequest payload s).1.ports = s.ports ∧
    (identRequest payload s).1.queues = s.queues ∧ (identRequest payload s).1.posts = s.posts ∧
    (identRequest payload s).1.offers = s.offers ∧ (identRequest payload s).1.lineMsgs = s.lineMsgs ∧
    (identRequest payload s).1.lockMsgs = s.lockMsgs ∧ (identRequest payload s).1.clocks = s.clocks ∧
    (identRequest payload s).1.pending = s.pending := by
  unfold identRequest
  repeat' first | split | dsimp only
  all_goals simp

end Sys2Proof.Machine
end

