-- ==== Sys2Proof/Laws/Ops.lean ====
section
/-! SUPPORT. What the shared operations do, once: taking and answering a request, posting notices, putting an entry in the list,
removing entries, hearing of an event. -/

namespace Sys2Proof.Machine

/-! ### Requests -/

theorem handedRequest_some {s : State} {p : Port} {k : ReqKind} {payload : List Byte} {clk : Clock} :
    s.handedRequest p k = some (payload, clk) ↔
      ∃ f, (s.port p).inHand = some ⟨f, .handed clk⟩ ∧ f.kind = k.byte ∧ f.payload = payload := by
  unfold State.handedRequest
  split
  · next f clk' h =>
    by_cases hk : f.kind = k.byte
    · simp only [hk, if_true, Option.some.injEq, Prod.mk.injEq, h, InHand.mk.injEq, HandStage.handed.injEq]
      constructor
      · rintro ⟨rfl, rfl⟩
        exact ⟨f, ⟨rfl, rfl⟩, hk, rfl⟩
      · rintro ⟨g, ⟨rfl, rfl⟩, -, rfl⟩
        exact ⟨rfl, rfl⟩
    · simp only [hk, if_false, h, Option.some.injEq, InHand.mk.injEq]
      constructor
      · rintro ⟨⟩
      · rintro ⟨g, ⟨rfl, -⟩, hg, -⟩
        exact absurd hg hk
  · next h =>
    constructor
    · rintro ⟨⟩
    · rintro ⟨f, hf, -⟩
      exact absurd hf (h f clk)

theorem takeRequest_of_none {k : ReqKind} {agent : Agent} {p : Port} {body : List Byte → State → State × Answer} {s : State}
    (h : s.handedRequest p k = none) : takeRequest k agent p body s = s := by
  simp [takeRequest, h]

theorem takeRequest_of_some {k : ReqKind} {agent : Agent} {p : Port} {body : List Byte → State → State × Answer} {s : State}
    {payload : List Byte} {clk : Clock} (h : s.handedRequest p k = some (payload, clk)) :
    takeRequest k agent p body s =
      (body payload (s.hear agent clk)).1.answer p (body payload (s.hear agent clk)).2
        ((body payload (s.hear agent clk)).1.clock agent) := by
  simp [takeRequest, h]

theorem answer_of_some {s : State} {p : Port} {h : InHand} (hh : (s.port p).inHand = some h) (a : Answer) (clk : Clock) :
    s.answer p a clk = s.setPort p { s.port p with inHand := some { h with stage := .answered a clk } } := by
  simp [State.answer, hh]

/-- A request taken by a block that leaves the ports alone: the answer is at the port, and everything else is as the block's body
leaves it. -/
theorem takeRequest_spec {k : ReqKind} {agent : Agent} {p : Port} {body : List Byte → State → State × Answer} {s : State}
    {payload : List Byte} {clk : Clock} (h : s.handedRequest p k = some (payload, clk))
    (hp : (body payload (s.hear agent clk)).1.ports = s.ports) :
    s.Answered (takeRequest k agent p body s) p (body payload (s.hear agent clk)).2 ∧
      takeRequest k agent p body s =
        { (body payload (s.hear agent clk)).1 with ports := (takeRequest k agent p body s).ports } := by
  obtain ⟨f, hf, -, -⟩ := handedRequest_some.1 h
  have hq : ∀ q, (body payload (s.hear agent clk)).1.port q = s.port q := fun q => by
    simp only [State.port, hp]
  have hf' : ((body payload (s.hear agent clk)).1.port p).inHand = some ⟨f, .handed clk⟩ := by rw [hq p]; exact hf
  rw [takeRequest_of_some h, answer_of_some hf']
  refine ⟨⟨⟨f, .handed clk⟩, (body payload (s.hear agent clk)).1.clock agent, hf, ?_⟩, rfl⟩
  simp only [State.setPort, hp, hq]

/-! ### Posts -/

theorem State.Posted.nil {s t : State} (h : t.posts = s.posts) : s.Posted t [] :=
  ⟨[], by simp [h], rfl, by simp⟩

theorem State.Posted.trans {s t u : State} {l m : List (PostBlock × Port × Notice)} (h : s.Posted t l)
    (hs : ∀ p, (t.port p).sessions = (s.port p).sessions) (h' : t.Posted u m) : s.Posted u (l ++ m) := by
  obtain ⟨n, h1, h2, h3⟩ := h
  obtain ⟨n', h1', h2', h3'⟩ := h'
  refine ⟨n ++ n', by rw [h1', h1, List.append_assoc], by simp [h2, h2'], ?_⟩
  intro x hx
  rcases List.mem_append.1 hx with hx | hx
  · exact h3 x hx
  · rw [h3' x hx, hs]

theorem posted_post (s : State) (b : PostBlock) (p : Port) (n : Notice) : s.Posted (s.post b p n) [(b, p, n)] :=
  ⟨[⟨b, p, (s.port p).sessions, n, (s.clock (agentOf b)).bump b⟩], rfl, rfl, by simp⟩

theorem posted_postEach (s : State) (b : PostBlock) (n : Notice) (ps : List Port) :
    s.Posted (s.postEach b n ps) (ps.map fun p => (b, p, n)) := by
  unfold State.postEach
  induction ps generalizing s with
  | nil => exact .nil rfl
  | cons p ps ih => exact (posted_post s b p n).trans (fun _ => rfl) (ih _)

@[simp] theorem postEach_port (s : State) (b : PostBlock) (n : Notice) (ps : List Port) (q : Port) :
    (s.postEach b n ps).port q = s.port q := by
  simp [State.port]

@[simp] theorem postEach_openPorts (s : State) (b : PostBlock) (n : Notice) (ps : List Port) :
    (s.postEach b n ps).openPorts = s.openPorts := by
  simp [State.openPorts, State.isOpen, State.session]

/-- A PACE notice goes to every OPEN port (R12). -/
theorem posted_postPace (s : State) (before : PaceMode) (cause : PaceCause) :
    s.Posted (s.postPace before cause) (s.openPorts.map fun p => (.timebase, p, paceNotice s.tb before cause)) :=
  posted_postEach _ _ _ _

/-- TIME_END and then PACE go to every OPEN port (R9). -/
theorem posted_postTimeEnd (s : State) (before : PaceMode) :
    s.Posted (s.postTimeEnd before) ((s.openPorts.map fun p => (.timebase, p, ⟨.timeEnd, 0, 0, s.tb.machTime⟩)) ++
      s.openPorts.map fun p => (.timebase, p, paceNotice s.tb before .timeEnd)) :=
  (posted_postEach _ _ _ _).trans (by simp) 
    (by
      rw [State.postTimeEnd]
      simpa using posted_postPace (s.postEach .timebase ⟨.timeEnd, 0, 0, s.tb.machTime⟩ s.openPorts) before .timeEnd)

theorem State.Posted.congr {s s' t t' : State} {l : List (PostBlock × Port × Notice)} (h : s.Posted t l)
    (hs : s'.posts = s.posts) (hp : ∀ p, (s'.port p).sessions = (s.port p).sessions) (ht : t'.posts = t.posts) :
    s'.Posted t' l := by
  obtain ⟨n, h1, h2, h3⟩ := h
  exact ⟨n, by rw [ht, hs, h1], h2, fun x hx => by rw [h3 x hx, hp]⟩

/-! ### Pasts -/

theorem Clock.get_join (a b : Clock) (c : PostBlock) : (a.join b).get c = max (a.get c) (b.get c) := by cases c <;> rfl

theorem Clock.get_bump (a : Clock) (b c : PostBlock) : (a.bump b).get c = a.get c + (if c = b then 1 else 0) := by
  cases b <;> cases c <;> rfl

@[simp] theorem State.clock_hear_self (s : State) (a : Agent) (k : Clock) : (s.hear a k).clock a = (s.clock a).join k := by
  simp [State.clock, State.hear]

@[simp] theorem State.clock_post_self (s : State) (b : PostBlock) (p : Port) (n : Notice) :
    (s.post b p n).clock (agentOf b) = (s.clock (agentOf b)).bump b := by
  simp [State.clock, State.post]

/-- Two agents have different places in the table of pasts. -/
theorem Agent.index_ne {a b : Agent} (h : a ≠ b) : a.index ≠ b.index := by
  intro e
  apply h
  cases a <;> cases b <;> first
    | rfl
    | exact absurd e (by decide)
    | (rename_i p; revert p; decide)
    | (rename_i p q; revert p q; decide)

theorem State.clock_hear_ne (s : State) {a b : Agent} (k : Clock) (h : a ≠ b) : (s.hear a k).clock b = s.clock b := by
  have h' : a.index.val ≠ b.index.val := fun e => Agent.index_ne h (Fin.ext e)
  simp [State.clock, State.hear, Vector.getElem_set_ne, h']

theorem State.clock_post_ne (s : State) (b : PostBlock) (p : Port) (n : Notice) {a : Agent} (h : agentOf b ≠ a) :
    (s.post b p n).clock a = s.clock a := by
  have h' : (agentOf b).index.val ≠ a.index.val := fun e => Agent.index_ne h (Fin.ext e)
  simp [State.clock, State.post, Vector.getElem_set_ne, h']

theorem State.stampPurges_lease (s : State) (p : Port) (r : ResId) :
    (s.stampPurges p).lease r = (s.lease r).stampPurge p (s.clock .leases) := mapRecords_get _ _ r

theorem Lease.stampPurge_of_none {x : Lease} (h : x.ending = none) (p : Port) (k : Clock) : x.stampPurge p k = x := by
  unfold Lease.stampPurge; rw [h]

/-! ### The tick in hand -/

@[simp] theorem Work.markOffers_bodies (w : Work) (k : Clock) :
    (w.markOffers k).map Offer.body = w.marks.map fun m => .mark m.1 m.2 w.time := by
  simp [Work.markOffers]

theorem Work.markOffers_clk {w : Work} {k : Clock} {o : Offer} (h : o ∈ w.markOffers k) : o.clk = k := by
  unfold Work.markOffers at h
  obtain ⟨m, -, rfl⟩ := List.mem_map.1 h
  rfl

/-- With an entry left or an action not answered, and with no tick in hand, nothing ends. -/
theorem finishTick_of_open {s : State} (h : ∀ w, s.sched.work = some w → ¬ (w.rest = [] ∧ w.handed = none)) :
    finishTick s = s := by
  unfold finishTick
  split
  · next w hw => rw [if_neg (h w hw)]
  · rfl

/-- The end of a tick: no work is left, its marks are offered with the schedule's past, and only the channels may hear of it. -/
theorem finishTick_of_done {s : State} {w : Work} (hw : s.sched.work = some w) (hr : w.rest = []) (hh : w.handed = none) :
    finishTick s = { s with
      sched := { s.sched with work := none }, offers := s.offers ++ w.markOffers (s.clock .schedule),
      clocks := (finishTick s).clocks } ∧
    (∀ a, a ≠ .channels → (finishTick s).clock a = s.clock a) := by
  unfold finishTick
  rw [hw]
  simp only [hr, hh, and_self, if_true]
  split
  · refine ⟨rfl, fun a ha => ?_⟩
    rw [State.clock_hear_ne _ _ (Ne.symm ha)]
    rfl
  · exact ⟨rfl, fun _ _ => rfl⟩

/-! ### The list of entries -/

theorem insertEntry_perm (e : Entry) (l : List Entry) : (insertEntry e l).Perm (e :: l) := by
  induction l with
  | nil => exact .refl _
  | cons x l ih =>
    unfold insertEntry
    split
    · exact (ih.cons x).trans (.swap e x l)
    · exact .refl _

theorem mem_insertEntry {e x : Entry} {l : List Entry} : x ∈ insertEntry e l ↔ x = e ∨ x ∈ l := by
  rw [(insertEntry_perm e l).mem_iff, List.mem_cons]

theorem mem_chansOf {cs : ChanSet} {c : Chan} : c ∈ chansOf cs ↔ cs.getLsbD c.val = true := by
  simp [chansOf]

theorem chansOf_one : ∀ c : Chan, chansOf (BitVec.ofNat 16 (2 ^ c.val)) = [c] := by decide

theorem remove_entries (sc : Schedule) (f : Entry → Bool) :
    (sc.remove f).entries = sc.entries.filter fun e => !f e := rfl

theorem remove_counts (sc : Schedule) (f : Entry → Bool) (p : Port) :
    (sc.remove f).counts[p] = sc.counts[p] - (sc.entries.filter fun e => f e && e.owner == p).length := by
  simp [Schedule.remove, mapRecords]

end Sys2Proof.Machine
end

