-- ==== Sys2Proof/WellFormed.lean ====
section
/-! DEFINITION. Which commands are well formed. Ports, channels, lines, groups and resources are so by their types. -/

namespace Sys2Proof

/-- RESET has been low for at least one period; a frame is judged after 3 bytes (a length above 28) or at its last byte, of 4
to 32 (R152); a slice of a machine tick takes 1 to 8 entries (R30). Every other operand admits every value of its type. -/
def Instr.wellFormed : Instr → Bool
  | .resetEntry n => decide (1 ≤ n)
  | .resetRelease _ => true
  | .powerApplied => true
  | .wallTick => true
  | .machineTick => true
  | .stepBoundary => true
  | .creepHoldStart => true
  | .creepHoldEnd => true
  | .timeEnd => true
  | .transactionStart _ => true
  | .frameJudge _ bytes => decide (3 ≤ bytes.length ∧ bytes.length ≤ 32)
  | .transactionEnd _ _ => true
  | .engineTake _ => true
  | .answerTaken _ => true
  | .attach _ => true
  | .detach _ => true
  | .ident _ => true
  | .time _ => true
  | .pace _ => true
  | .setclock _ => true
  | .settime _ => true
  | .claim _ => true
  | .release _ => true
  | .leases _ => true
  | .submit _ => true
  | .cancel _ => true
  | .cancelChannel _ => true
  | .query _ => true
  | .schedule _ => true
  | .channelConfig _ => true
  | .channels _ => true
  | .lineConfig _ => true
  | .lines _ => true
  | .tripConfig _ => true
  | .arm _ => true
  | .disarm _ => true
  | .trips _ => true
  | .subscribe _ => true
  | .unsubscribe _ => true
  | .read _ => true
  | .notices _ => true
  | .scheduleTick slice => decide (1 ≤ slice ∧ slice ≤ Config.fireBudget)
  | .application => true
  | .channelTick _ => true
  | .pulseEnd _ => true
  | .trainEdge _ => true
  | .holdLimitExpiry _ => true
  | .revocation _ => true
  | .waitLimitExpiry _ _ => true
  | .leaseEndPurge _ => true
  | .purgeReport _ => true
  | .leaseEndShare _ => true
  | .grantStep _ => true
  | .lineSample _ _ => true
  | .qualifiedChange _ _ => true
  | .groupLineChange _ _ => true
  | .lock _ _ => true
  | .lockReport _ => true
  | .tripPurge _ => true
  | .unlock _ _ => true
  | .journalOffer _ => true
  | .noticePost _ _ => true
  | .lapse _ => true
  | .scheduleTeardown _ => true
  | .leaseTeardown _ => true
  | .journalTeardown _ => true
  | .noticeTeardown _ => true
  | .teardownReport _ _ => true

end Sys2Proof
end

