-- ==== Sys2Proof/Tests/Slice0.lean ====
section
/-! SUPPORT. The model's own tests: ill-formed commands, one-step checks whose expected results stand in the spec's worked sequences, and
for each statement a concrete case that meets its hypotheses, clause by clause. -/

namespace Sys2Proof.Tests

open Sys2Proof.Machine

-- One theorem at a time: a kernel evaluation waits for all before it, and each that waits holds a thread.
set_option Elab.async false

/-! ### Small states -/

/-- A port with an OPEN session of term 64. -/
def openedPort : PortRec := { session := .opened, term := some 64, resetFlag := false, sessions := 1 }

/-- The part with every port OPEN and idle. -/
def base : State := { ports := Vector.replicate 4 openedPort }

/-- The same with P0 holding T and C0. -/
def coord : State := (base.setLease timeline { holder := some 0 }).setLease 0 { holder := some 0 }

/-- Port P0 with a request in hand that has been handed to its block. -/
def ask (k : ReqKind) (payload : List Byte) (s : State) : State :=
  s.setPort 0 { s.port 0 with inHand := some ⟨⟨k.byte, 1, payload⟩, .handed {}⟩ }

/-- The state with another Timebase. -/
def withTime (tb : Timebase) (s : State) : State := { s with tb := tb }

/-- The state after one step that runs the command. -/
def after (c : Instr) (s : State) : State :=
  match step { s with pending := [c] } with
  | .next t => t
  | .fault _ => s
  | .refused _ => s

/-- P0 CLOSING with the four parts of its teardown handed. -/
def closingPort : PortRec :=
  { openedPort with
    session := .closing, cause := some .lapsed, partsOut := 4, parts := ⟨.handed {}, .handed {}, .handed {}, .handed {}⟩ }

/-- A lease with nobody waiting is as R74 and R75 ask, whoever holds it. -/
theorem held_ok (holder : Option Port) : ({ holder := holder } : Lease).Ok := by constructor <;> simp

theorem coord_leasesOk (p : Port) (x : PortRec) : (coord.setPort p x).LeasesOk := by
  constructor
  · intro r
    fin_cases r <;> exact held_ok _
  · rfl

/-- A claim of P2 and then one of P3 wait for the resource. -/
def waited (x : Lease) : Lease := { x with queue := [⟨2, 5, 6, 7⟩, ⟨3, 0, 16777215, 0⟩] }

/-- P2 is CLOSING, the other ports are OPEN, and P2 and then P3 wait for the resource. -/
def waiting (r : ResId) (x : Lease) : State := (base.setPort 2 closingPort).setLease r (waited x)

theorem waiting_leasesOk (r : ResId) : (waiting r { holder := some 0 }).LeasesOk := by
  constructor
  · intro d
    by_cases h : r = d
    · subst h
      rw [waiting, State.lease_setLease_self]
      constructor <;> simp [waited]
    · rw [waiting, State.lease_setLease_ne _ _ _ _ h]
      clear h
      fin_cases d <;> exact held_ok none
  · by_cases h : r = timeline
    · subst h
      rw [waiting, State.lease_setLease_self]
      rfl
    · rw [waiting, State.lease_setLease_ne _ _ _ _ h]
      rfl

/-- The kinds, subjects and details of the posts made, with their ports. -/
def posted (s : State) : List (Port × NoticeKind × Nat × Nat) :=
  s.posts.map fun x => (x.port, x.notice.kind, x.notice.subject, x.notice.detail)

/-! ### Ill-formed commands -/

theorem test_wellFormed_refuses_reset_of_no_period : (Instr.resetEntry 0).wellFormed = false := by decide

theorem test_wellFormed_refuses_frame_lengths :
    (Instr.frameJudge 0 [1, 2]).wellFormed = false ∧ (Instr.frameJudge 0 (List.replicate 33 1)).wellFormed = false := by decide

theorem test_wellFormed_refuses_slices :
    (Instr.scheduleTick 0).wellFormed = false ∧ (Instr.scheduleTick 9).wellFormed = false := by decide

theorem test_wellFormed_accepts_boundaries :
    (Instr.resetEntry 1).wellFormed = true ∧ (Instr.frameJudge 0 [1, 2, 29]).wellFormed = true ∧
    (Instr.frameJudge 0 (List.replicate 32 1)).wellFormed = true ∧ (Instr.scheduleTick 1).wellFormed = true ∧
    (Instr.scheduleTick 8).wellFormed = true := by decide

/-! ### The spec's worked sequences, one step each -/

/-- 10.1, an IDENT frame with sequence number 1: its check byte is 0xA8. -/
theorem test_ident_frame : scanFrame [0x03, 0x01, 0x00, 0xA8] = .whole ⟨0x03, 0x01, []⟩ true := by decide +kernel

/-- 10.4, a PULSE on C5 of width 10, due at 5,200, notify set. -/
theorem test_submit_payload :
    submitEntry 2 [0x01, 0x01, 0x00, 0x00, 0x00, 0x00, 0x14, 0x50, 0x05, 0x00, 0x00, 0x0A] =
      some { tag := 0, owner := 2, action := .pulse 5 10, due := 5200, notify := true } := by decide +kernel

/-- 1.11, point G: the boundary at 5,000 uses the last step; PACE (HOLD, before STEP, STEPS_DONE, 0) goes to every OPEN port. -/
theorem test_last_step :
    let s := withTime { mode := .step, pendingSteps := 1, machTime := 5000, tdiv := 4, cycle := 1000, boundaryDue := true } base
    (after .stepBoundary s).tb.mode = .hold ∧ posted (after .stepBoundary s) =
      [(0, .pace, 0, 0x020100), (1, .pace, 0, 0x020100), (2, .pace, 0, 0x020100), (3, .pace, 0, 0x020100)] := by decide +kernel

/-- 1.11, a creep of factor 4 with TDIV 1 and CYCLE 16: the hold at the boundary 48 lasts 48 periods. -/
theorem test_creep_hold :
    (after .creepHoldStart (withTime { mode := .creep, factor := 4, machTime := 48, cycle := 16, boundaryDue := true } base)).tb.holdCount
      = 48 := by decide +kernel

/-- 1.11, point B of the creep: the tick at 48 reaches the boundary. -/
theorem test_tick_reaches_boundary :
    let s := after .machineTick (withTime { mode := .creep, factor := 4, machTime := 47, cycle := 16 } base)
    s.tb.machTime = 48 ∧ s.tb.boundaryDue = true := by decide +kernel

/-- 3.9, point A: a PULSE of tag 40 and width 10 on C5 at level 0, applied at 1,000. -/
theorem test_pulse_applied :
    let e : Entry := { tag := 40, owner := 2, action := .pulse 5 10, due := 1000, notify := true }
    let s : State := { base.setLease 5 { holder := some 2 } with
      tb := { mode := .run, machTime := 1000 },
      sched := { entries := [e], work := some { time := 1000, ordinal := 7, rest := [], handed := some e } } }
    ((after .application s).chan 5).level = true ∧
    (((after .application s).chan 5).wave.map fun w => (w.tag, w.rest, w.active, w.ticksLeft)) = some (40, false, true, 10) ∧
    posted (after .application s) = [(2, .fired, 40, 0)] := by decide +kernel

/-- 3.9, point C: the pulse ends at rest 0 with WAVE_DONE (40, 0). -/
theorem test_pulse_end :
    let s := base.setChan 5 { level := true, wave := some ⟨40, 2, true, .pulse, false, true, 0, 7⟩ }
    ((after (.pulseEnd 5) s).chan 5).level = false ∧ posted (after (.pulseEnd 5) s) = [(2, .waveDone, 40, 0)] := by decide +kernel

/-- 3.9, point E: the first ACTIVE phase of a train of period 4 and on time 1 gives way to a REST of 3 ticks. -/
theorem test_train_edge :
    let s := base.setChan 5 { level := true, wave := some ⟨41, 2, true, .train 1 4 3 0, false, true, 0, 7⟩ }
    (((after (.trainEdge 5) s).chan 5).wave.map fun w => (w.active, w.ticksLeft, w.kind)) =
      some (false, 3, .train 1 4 3 1) := by decide +kernel

/-- 3.9: the third pulse of the train ends it, with WAVE_DONE (41, 3). -/
theorem test_train_done :
    let s := base.setChan 5 { level := true, wave := some ⟨41, 2, true, .train 1 4 3 2, false, true, 0, 7⟩ }
    ((after (.trainEdge 5) s).chan 5).wave = none ∧ posted (after (.trainEdge 5) s) = [(2, .waveDone, 41, 3)] := by decide +kernel

/-- 4.10, point E: a lease granted at 20,000 with hold limit 5,000 is revoked at 25,000 with REVOKED (C4, 5,000). -/
theorem test_revocation :
    let s := withTime { wallTime := 25000 } (base.setLease 4
      { holder := some 1, grantWall := 20000, holdLimit := 5000, queue := [⟨3, 0, 0, 24000⟩, ⟨2, 2000, 3000, 24500⟩], revokeDue := true })
    posted (after (.revocation 4) s) = [(1, .revoked, 4, 5000)] ∧
    ((after (.revocation 4) s).lease 4).ending.map Ending.cause = some .revoke := by decide +kernel

/-- 4.10, point I: P2's claim of 24,500 with wait limit 3,000 runs out at 27,500. -/
theorem test_wait_limit :
    let s := withTime { wallTime := 27500 } (base.setLease 4 { holder := some 3, queue := [⟨2, 2000, 3000, 24500⟩] })
    posted (after (.waitLimitExpiry 4 2) s) = [(2, .claimExpired, 4, 3000)] := by decide +kernel

/-- 4.10: one wall tick earlier the claim stands. -/
theorem test_wait_limit_not_yet :
    let s := withTime { wallTime := 27499 } (base.setLease 4 { holder := some 3, queue := [⟨2, 2000, 3000, 24500⟩] })
    ((after (.waitLimitExpiry 4 2) s).lease 4).queue.length = 1 := by decide +kernel

/-- 5.7, points F and G: with q = 2 the 31st sample does not change the qualified level, and the 32nd does. -/
theorem test_qualification :
    let s (n : Nat) := base.setLine 3 { raw := true, stable := n, mode := .rise, q := 2 }
    ((after (.lineSample 3 true) (s 30)).line 3).qualified = false ∧
    ((after (.lineSample 3 true) (s 31)).line 3).qualified = true := by decide +kernel

/-- 5.8, point D: with d = 2 the fourth edge, falling, returns the count to 0 and is offered. -/
theorem test_decimation :
    let s := after (.qualifiedChange 7 false) (base.setLine 7 { raw := true, qualified := true, mode := .both, d := 2, decim := 3 })
    (s.line 7).decim = 0 ∧ s.offers.map Offer.body = [.edge 7 false] := by decide +kernel

/-- 8.11, point E: a term of 1,000 after 60,400 has passed at 61,401, and not at 61,400. -/
theorem test_lapse :
    let s (w : Nat) := withTime { wallTime := w } (base.setPort 2 { openedPort with term := some 1000, lastActivity := 60400 })
    ((after (.lapse 2) (s 61400)).port 2).session = .opened ∧ ((after (.lapse 2) (s 61401)).port 2).session = .closing ∧
    ((after (.lapse 2) (s 61401)).port 2).partsOut = 4 := by decide +kernel

/-- A notice for the tests below. -/
def someNotice : Notice := ⟨.fired, 1, 0, 0⟩

/-- A post of the schedule to P1 in its present session. -/
def somePost : Post := { block := .schedule, port := 1, session := 1, notice := ⟨.dropped, 62, 1, 9⟩, clk := {} }

/-- 9.8, point E: a post that meets 15 notices is lost, and NOTICES_LOST with count 1 is stored. -/
theorem test_overflow :
    let s := after (.noticePost 1 .schedule) { base.setQueue 1 { notices := List.replicate 15 someNotice } with posts := [somePost] }
    (s.queue 1).notices.length = 16 ∧ (s.queue 1).notices.getLast? = some ⟨.noticesLost, 0, 1, 9⟩ := by decide +kernel

/-- 9.9, point B: a post to a port that is CLOSING is discarded. -/
theorem test_post_discarded :
    let s := after (.noticePost 1 .schedule)
      { base.setPort 1 { openedPort with session := .closing, cause := some .detach } with posts := [somePost] }
    (s.queue 1).notices = [] ∧ s.posts = [] := by decide +kernel

/-- R73 and R174: the FIRED of an application is in the past of what the channels post next. -/
theorem test_fired_before_the_channels_later_posts :
    let e : Entry := { tag := 40, owner := 2, action := .pulse 5 10, due := 1000, notify := true }
    let t := after .application { base.setLease 5 { holder := some 2 } with
      sched := { entries := [e], work := some { time := 1000, ordinal := 7, rest := [], handed := some e } } }
    t.posts.length = 1 ∧ ∀ x ∈ t.posts, x.clk.get x.block ≤ (t.clock .channels).get x.block ∧ 1 ≤ x.clk.get x.block := by
  decide +kernel

/-- R143 and R174: the TRIPPED notices are in the past of the locks that the trip hands over. -/
theorem test_tripped_before_its_locks :
    let t := after (.groupLineChange 3 11) { coord.setGroup 3 { state := .armed, sources := 0x800, channels := 1 } with
      lineMsgs := [{ group := 3, line := 11, level := true }] }
    t.posts.length = 1 ∧ t.lockMsgs.length = 1 ∧
    ∀ x ∈ t.posts, ∀ m ∈ t.lockMsgs, x.clk.get x.block ≤ m.clk.get x.block ∧ 1 ≤ x.clk.get x.block := by
  decide +kernel

/-- Two MARKs of P0, both due at machine time 5 with notify set, at the tick that the schedule has still to take. -/
def twoMarks : State :=
  { base with sched := {
      entries := [1, 2].map fun k => { tag := k, owner := 0, action := .mark, due := 5, notify := true, seq := k }
      tagCounter := 3, insertions := 3, counts := #v[2, 0, 0, 0], tick := some ⟨5, 1, {}⟩ } }

/-- R30, R35 and R174: the marks of one tick are offered in list order, each with the FIRED of both in its past. -/
theorem test_marks_follow_every_post_of_their_tick :
    let t := after (.scheduleTick 8) twoMarks
    t.offers.map Offer.body = [.mark 0 1 5, .mark 0 2 5] ∧ posted t = [(0, .fired, 1, 0), (0, .fired, 2, 0)] ∧
    ∀ o ∈ t.offers, ∀ x ∈ t.posts, x.clk.get x.block ≤ o.clk.get x.block := by decide +kernel

/-- R192: MISO is driven while the chip select is low, also when no transaction began, and in the reset state it is not. -/
theorem test_miso_driven_while_selected :
    let s := base.setPort 0 { openedPort with csLow := true }
    (s.misoByte 0 0).isSome = true ∧ (base.misoByte 0 0).isSome = false ∧
    (({ s with inReset := true } : State).misoByte 0 0).isSome = false := by decide +kernel

/-- No row of the table carries bits. -/
theorem test_no_word_spells_a_command : decodeTableWord 8 0x03 = none := by decide

/-! ### Cases that meet the hypotheses of each statement -/

theorem witness_StepRunsFrontCommandOrClock :
    ({ base with pending := [.wallTick] } : State).pending = .wallTick :: [] ∧
    (withTime { wallTickDue := true } base).pending = [] ∧
    forcedEvent (withTime { wallTickDue := true } base) = some .wallTick ∧
    base.pending = [] ∧ forcedEvent base = none ∧ base.inReset = false ∧
    ({ base with inReset := true } : State).pending = [] ∧
    forcedEvent { base with inReset := true } = none ∧ ({ base with inReset := true } : State).inReset = true := by decide +kernel

theorem witness_ClockCountsPeriods :
    (let tb : Timebase := {};
      tb.wallPrescale = 0 ∧ tb.wallTickDue = false) ∧
    (∀ n ∈ [1, 256], let tb : Timebase := { mode := .run, tdiv := n };
      tb.running = true ∧ tb.machPrescale = 0 ∧ tb.machTickDue = false ∧ 1 ≤ tb.tdiv) ∧
    (∀ n ∈ [1, 15 * 16777216 * 256], let tb : Timebase := { mode := .creep, creepHolding := true, holdCount := n };
      tb.mode = .creep ∧ tb.creepHolding = true ∧ tb.holdEndDue = false ∧ 1 ≤ tb.holdCount) := by decide +kernel

theorem witness_TicksAdvanceTheTwoTimes :
    (∀ n ∈ [0, 2 ^ 48 - 1], (withTime { wallTime := n } base).inReset = false) ∧
    (∀ n ∈ [0, 2 ^ 48 - 2], let s := withTime { mode := .run, machTime := n } base;
      s.tb.running = true ∧ s.tb.timeEndDue = false ∧ s.tb.boundaryWaits = false ∧ s.tb.machTime < 2 ^ 48 - 1 ∧
      s.tickDone = true) := by decide +kernel

theorem witness_BoundariesEndStepsAndCreepRuns :
    (∀ n ∈ [2, 15], let s := withTime { mode := .step, pendingSteps := n, boundaryDue := true } base;
      s.tb.boundaryDue = true ∧ s.tb.mode = .step ∧ 2 ≤ s.tb.pendingSteps) ∧
    (let s := withTime { mode := .step, pendingSteps := 1, boundaryDue := true } base;
      s.tb.boundaryDue = true ∧ s.tb.mode = .step ∧ s.tb.pendingSteps ≤ 1) ∧
    (let s := withTime { mode := .creep, boundaryDue := true } base;
      s.tb.mode = .creep ∧ s.tb.boundaryDue = true) ∧
    (let s := withTime { mode := .creep, creepHolding := true, holdCount := 1, holdEndDue := true } base;
      s.tb.mode = .creep ∧ s.tb.creepHolding = true) := by decide +kernel

theorem witness_TimeEndHoldsAndReports :
    (withTime { mode := .run, machTime := 2 ^ 48 - 1, timeEndDue := true } base).tb.timeEndDue = true := by decide

/-- Each mode in force meets each mode requested, the creep factor at both ends of its range, and machine time at both ends of its
range. -/
theorem witness_PaceFollowsTable :
    ∀ tb ∈ [({ mode := .hold } : Timebase), { mode := .run }, { mode := .step, pendingSteps := 14 },
        { mode := .step, pendingSteps := 15 }, { mode := .creep }, { mode := .creep, creepHolding := true, holdCount := 5 },
        { machTime := 2 ^ 48 - 1 }, { mode := .run, machTime := 2 ^ 48 - 1, timeEndDue := true }],
      ∀ x ∈ [(PaceMode.hold, 0, [(0 : Byte), 0]), (.run, 0, [1, 0]), (.step, 255, [2, 255]), (.creep, 2, [3, 2]), (.creep, 16, [3, 16])],
        (ask .pace x.2.2 (withTime tb coord)).handedRequest 0 .pace = some (x.2.2, {}) ∧ paceArgs x.2.2 = some (x.1, x.2.1) ∧
        (ask .pace x.2.2 (withTime tb coord)).isCoordinator 0 = true := by decide +kernel

theorem witness_ClockIsSetInHold :
    (∀ tb ∈ [({ mode := .hold } : Timebase), { mode := .run }],
      ∀ x ∈ [(1, 16, [(0 : Byte), 1, 0, 0, 0, 16]), (256, 16777216, [1, 0, 1, 0, 0, 0])],
        (ask .setclock x.2.2 (withTime tb coord)).isCoordinator 0 = true ∧
        (ask .setclock x.2.2 (withTime tb coord)).handedRequest 0 .setclock = some (x.2.2, {}) ∧
        setclockArgs x.2.2 = some (x.1, x.2.1)) ∧
    (∀ tb ∈ [({ mode := .hold } : Timebase), { mode := .run }],
      ∀ x ∈ [List.replicate 6 (0 : Byte), List.replicate 6 255],
        (ask .settime x (withTime tb coord)).isCoordinator 0 = true ∧
        (ask .settime x (withTime tb coord)).handedRequest 0 .settime = some (x, {}) ∧
        (ask .settime x (withTime tb coord)).tb.timeEndDue = false) ∧
    (let s := withTime { mode := .run, machTime := 2 ^ 48 - 1, timeEndDue := true } coord;
      s.isCoordinator 0 = true ∧ s.tb.timeEndDue = true) := by decide +kernel

/-- Arguments just out of range from the coordinator, and arguments in range from a port that does not hold T. -/
theorem witness_RestrictedRequestsNeedTheTimeline :
    (∀ x ∈ [[(4 : Byte), 0], [3, 1], [3, 17]],
      (ask .pace x coord).handedRequest 0 .pace = some (x, {}) ∧ paceArgs x = none) ∧
    (∀ x ∈ [[(0 : Byte), 0, 0, 0, 0, 16], [1, 1, 0, 0, 0, 16], [0, 1, 0, 0, 0, 15], [0, 1, 1, 0, 0, 1]],
      (ask .setclock x coord).handedRequest 0 .setclock = some (x, {}) ∧ setclockArgs x = none) ∧
    (∀ x ∈ [[(12 : Byte), 0, 0, 0], [0, 4, 0, 0], [0, 0, 0, 8]],
      (ask .lineConfig x coord).handedRequest 0 .lineConfig = some (x, {}) ∧ lineConfigArgs x = none) ∧
    (∀ x ∈ [[(4 : Byte), 0, 1, 0, 0, 1], [0, 16, 0, 0, 0, 1], [0, 0, 1, 2, 0, 1]],
      (ask .tripConfig x coord).handedRequest 0 .tripConfig = some (x, {}) ∧ tripConfigArgs x = none) ∧
    (∀ k ∈ [ReqKind.arm, .disarm], (ask k [4] coord).handedRequest 0 k = some ([4], {}) ∧ groupArg [4] = none) ∧
    (∀ x ∈ [(ReqKind.pace, [(0 : Byte), 0]), (.setclock, [0, 1, 0, 0, 0, 16]), (.settime, [0, 0, 0, 0, 0, 0]),
        (.lineConfig, [11, 3, 255, 7]), (.tripConfig, [3, 15, 255, 1, 255, 255]), (.arm, [3]), (.disarm, [3])],
      (ask x.1 x.2 base).handedRequest 0 x.1 = some (x.2, {}) ∧ (ask x.1 x.2 base).isCoordinator 0 = false ∧
      (ask x.1 x.2 base).tb.timeEndDue = false) := by
  decide +kernel

/-- A Timebase in the hold phase of a creep, with both times at the ends of their ranges. -/
def creepingTime : Timebase :=
  { wallTime := 2 ^ 48 - 1, machTime := 2 ^ 48 - 2, mode := .creep, creepHolding := true, factor := 16, holdCount := 15 * 16777216 * 256,
    tdiv := 256, cycle := 16777216 }

theorem creepingTime_ok : creepingTime.Ok := by
  constructor <;> simp [creepingTime, Timebase.running, Config.wallModulus, Config.wallPrescaleLast, Config.lastMachTime]

theorem witness_SnapshotsChangeNothing :
    (∀ k ∈ [ReqKind.time, .schedule, .channels, .lines, .trips, .ident], (ask k [] coord).handedRequest 0 k = some ([], {})) ∧
    (∀ x ∈ [(0 : Byte), 16, 17], (ask .leases [x] coord).handedRequest 0 .leases = some ([x], {})) ∧
    resourceArg [0] = some 0 ∧ resourceArg [16] = some timeline ∧ resourceArg [17] = none ∧
    (withTime creepingTime coord).tb.Ok :=
  ⟨by decide +kernel, by decide +kernel, by decide, by decide, by decide, creepingTime_ok⟩

/-- Actions at both ends of their ranges, with and without a repeat and a guard. -/
theorem witness_SubmitPayloadReadsBack :
    ∀ e ∈ [({ tag := 0, owner := 0, action := .pulse 0 1, due := 0 } : Entry),
      { tag := 0, owner := 0, action := .pulse 15 16777215, due := 2 ^ 48 - 1, rep := some ⟨1, none⟩ },
      { tag := 0, owner := 0, action := .train 15 2 1 0, due := 1, rep := some ⟨2 ^ 32 - 1, some 65535⟩, guard := some ⟨11, true⟩ },
      { tag := 0, owner := 0, action := .train 0 16777215 16777214 65535, due := 1, rep := some ⟨1, some 1⟩, guard := some ⟨0, false⟩ },
      { tag := 0, owner := 0, action := .groupSet 0xFFFF 1, due := 1, notify := true, late := .fire },
      { tag := 0, owner := 0, action := .set 15 true, due := 1, notify := true },
      { tag := 0, owner := 0, action := .mark, due := 1 }], e.Askable := by
  simp only [List.mem_cons, List.not_mem_nil, or_false, forall_eq_or_imp, forall_eq]
  refine ⟨?_, ?_, ?_, ?_, ?_, ?_, ?_⟩ <;> constructor <;>
    simp [Action.Ok, Config.max24, Config.max16, Config.lastMachTime] <;>
      (try (rintro _ _ rfl h; simp at h <;> omega))

theorem witness_SubmitPayloadReadsBack_fields :
    ([1, 2] : List Byte)[0 + 0]? = some 1 ∧ ([1, 2] : List Byte)[0 + 1]? = some 2 := by decide

/-- R24 and R187: one payload for each field out of range, one for an unused options bit, and one for an unknown kind. -/
theorem test_submit_out_of_range :
    ∀ x ∈ [[(0 : Byte), 0, 0, 0, 0, 0, 0, 5, 16, 1], [0, 0, 0, 0, 0, 0, 0, 5, 0, 2], [1, 0, 0, 0, 0, 0, 0, 5, 0, 0, 0, 0],
        [2, 0, 0, 0, 0, 0, 0, 5, 0, 0, 0, 1, 0, 0, 1, 0, 0], [2, 0, 0, 0, 0, 0, 0, 5, 0, 0, 0, 4, 0, 0, 0, 0, 0],
        [2, 0, 0, 0, 0, 0, 0, 5, 0, 0, 0, 4, 0, 0, 4, 0, 0], [3, 0, 0, 0, 0, 0, 0, 5, 0, 0, 255, 255],
        [4, 4, 0, 0, 0, 0, 0, 5, 0, 0, 0, 0, 0, 1], [4, 8, 0, 0, 0, 0, 0, 5, 12, 0], [4, 8, 0, 0, 0, 0, 0, 5, 0, 2],
        [4, 16, 0, 0, 0, 0, 0, 5], [5, 0, 0, 0, 0, 0, 0, 5]],
      lengthOk .submit x = true ∧ submitEntry 0 x = none := by decide +kernel

/-- A SET on C0, due at machine time 5. -/
def setEntry : Entry := { tag := 0, owner := 0, action := .set 0 true, due := 5 }

/-- Its payload. -/
def setPayload : List Byte := [0, 0, 0, 0, 0, 0, 0, 5, 0, 1]

/-- A schedule in which P0 owns `own` entries and that holds `total` in all. -/
def heldSchedule (own total : Nat) : Schedule :=
  { entries := List.replicate total { setEntry with tag := 1 }, counts := #v[own, 0, 0, 0] }

theorem witness_SubmitAccepts :
    ∀ n ∈ [(0, 0), (63, 191)], ∀ now ∈ [0, 4],
      let s := { ask .submit setPayload (withTime { machTime := now } coord) with sched := heldSchedule n.1 n.2 }
      s.handedRequest 0 .submit = some (setPayload, {}) ∧ s.scheduleBusy = false ∧ submitEntry 0 setPayload = some setEntry ∧
      (∀ c, setEntry.namesChan c = true → s.chanHolder c = some 0 ∧ (s.chan c).lockSet = 0) ∧
      (s.tb.machTime < setEntry.due ∨ setEntry.late = .fire) ∧ s.sched.counts[(0 : Port)] < 64 ∧ s.sched.entries.length < 192 := by
  decide +kernel

/-- One state for each of the six checks, that meets all checks before it. -/
theorem witness_SubmitRefusesInOrder :
    (let x : List Byte := [5, 0, 0, 0, 0, 0, 0, 5];
      (ask .submit x coord).handedRequest 0 .submit = some (x, {}) ∧ (ask .submit x coord).scheduleBusy = false ∧
      submitEntry 0 x = none) ∧
    submitEntry 0 setPayload = some setEntry ∧ (ask .submit setPayload base).handedRequest 0 .submit = some (setPayload, {}) ∧
    (∃ c, setEntry.namesChan c = true ∧ (ask .submit setPayload base).chanHolder c ≠ some 0) ∧
    (let s := ask .submit setPayload (coord.setChan 0 { lockSet := 8 });
      s.handedRequest 0 .submit = some (setPayload, {}) ∧ s.scheduleBusy = false ∧
      (∀ c, setEntry.namesChan c = true → s.chanHolder c = some 0) ∧ ∃ c, setEntry.namesChan c = true ∧ (s.chan c).lockSet ≠ 0) ∧
    (let s := ask .submit setPayload (withTime { machTime := 5 } coord);
      s.handedRequest 0 .submit = some (setPayload, {}) ∧ s.scheduleBusy = false ∧
      (∀ c, setEntry.namesChan c = true → s.chanHolder c = some 0) ∧
      (∀ c, setEntry.namesChan c = true → (s.chan c).lockSet = 0) ∧ setEntry.due ≤ s.tb.machTime ∧ setEntry.late = .reject) ∧
    (∀ n ∈ [(64, 64), (64, 192), (63, 192)],
      let s := { ask .submit setPayload (withTime { machTime := 4 } coord) with sched := heldSchedule n.1 n.2 }
      s.handedRequest 0 .submit = some (setPayload, {}) ∧ s.scheduleBusy = false ∧
      (∀ c, setEntry.namesChan c = true → s.chanHolder c = some 0) ∧
      (∀ c, setEntry.namesChan c = true → (s.chan c).lockSet = 0) ∧ s.tb.machTime < setEntry.due ∧
      (64 ≤ s.sched.counts[(0 : Port)] ∨ (s.sched.counts[(0 : Port)] < 64 ∧ 192 ≤ s.sched.entries.length))) := by
  refine ⟨?_, ?_, ?_, ?_, ?_, ?_, ?_⟩ <;> decide +kernel

/-- Nine entries of P1, all due, whose tags go over 65535; the tag counter stands at the first of them. -/
def nineDue : Schedule :=
  { entries := (List.range 9).map fun k =>
      { tag := if k = 0 then 65535 else k, owner := 1, action := .set 0 true, due := 5, seq := k },
    tagCounter := 65535, insertions := 9, counts := #v[0, 9, 0, 0] }

theorem nineDue_ok : nineDue.Ok := by
  constructor
  · decide
  · show List.Pairwise (fun a b : Entry => a.due < b.due ∨ (a.due = b.due ∧ a.seq < b.seq)) nineDue.entries
    decide +kernel
  · decide +kernel
  · decide +kernel
  · decide +kernel
  · decide +kernel
  · decide +kernel
  · decide +kernel
  · decide +kernel
  · intro w h; cases h

/-- A line with every count at the top of its range. -/
def fullLine : Line := { q := 255, d := 7, stable := 4079, decim := 127 }

theorem fullLine_ok : fullLine.Ok := by constructor <;> decide

/-- A group with the locks of its trip under way. -/
def tripping : State :=
  { base.setGroup 3 { state := .tripped, sources := 1, channels := 1, last := some (0, 5), locksOut := 1 } with
    lockMsgs := [{ group := 3, chan := 0, lock := true }] }

theorem tripping_ok (g : GroupId) : tripping.GroupOk g := by fin_cases g <;> constructor <;> decide

/-- The records whose replies are read back: a list with entries of P1 and none of P0, a line, groups, and a resource that P0 holds and
two ports wait for, that nobody holds, and that is ending. -/
theorem witness_SnapshotsChangeNothing_fields :
    (({ base with sched := nineDue } : State).sched.Ok ∧ nineDue.ownedBy 0 = [] ∧ nineDue.ownedBy 1 ≠ []) ∧
    ((base.setLine 11 fullLine).line 11).Ok ∧ (∀ g, tripping.GroupOk g) ∧
    ((waiting 16 { holder := some 0 }).LeasesOk ∧ ((waiting 16 { holder := some 0 }).lease 16).holder = some 0 ∧
      ((waiting 16 { holder := some 0 }).lease 16).queue[1]? = some ⟨3, 0, 16777215, 0⟩) ∧
    (base.lease 16).holder = none := by
  refine ⟨⟨nineDue_ok, by decide +kernel, by decide +kernel⟩, ?_, tripping_ok, ⟨waiting_leasesOk _, ?_, ?_⟩, ?_⟩
  · rw [State.line_setLine_self]
    exact fullLine_ok
  all_goals decide +kernel

theorem witness_ListOrderDecidesWhatATickTakes :
    nineDue.Ok ∧ (nineDue.dueAt 5).length = 8 ∧ nineDue.entries.Pairwise Entry.before ∧
    ∀ x ∈ nineDue.entries, x.seq < ({ setEntry with seq := 9 } : Entry).seq :=
  ⟨nineDue_ok, by decide +kernel, nineDue_ok.order, by decide +kernel⟩

/-- The first free tag is 9, found past 65535. -/
theorem witness_TagIsFirstFree : nineDue.Ok ∧ nineDue.chooseTag = 9 := ⟨nineDue_ok, by decide +kernel⟩

theorem witness_OwnersCancelAndQueryTheirEntries :
    (∀ k ∈ [ReqKind.cancel, .query], ∀ x ∈ [[(0 : Byte), 0], [255, 254]],
      let s := { ask k x coord with sched := nineDue }
      s.scheduleBusy = false ∧ s.handedRequest 0 k = some (x, {}) ∧ ∀ e ∈ s.sched.entries, e.tag ≠ fieldOf x 0 2) ∧
    (∀ k ∈ [ReqKind.cancel, .query],
      let s := { ask k [255, 255] coord with sched := nineDue }
      s.handedRequest 0 k = some ([255, 255], {}) ∧ (s.sched.find (fieldOf [255, 255] 0 2)).map Entry.owner = some 1) ∧
    (∀ k ∈ [ReqKind.cancel, .query],
      let s := { ask k [0, 1] coord with sched := heldSchedule 1 1 }
      s.handedRequest 0 k = some ([0, 1], {}) ∧ (s.sched.find (fieldOf [0, 1] 0 2)).map Entry.owner = some 0) ∧
    (∀ x ∈ [[(16 : Byte)], [254], [0], [15], [255]],
      (ask .cancelChannel x coord).handedRequest 0 .cancelChannel = some (x, {}) ∧ (ask .cancelChannel x coord).scheduleBusy = false) ∧
    (16 ≤ fieldOf [16] 0 1 ∧ fieldOf [16] 0 1 ≠ 255) ∧ (16 ≤ fieldOf [254] 0 1 ∧ fieldOf [254] 0 1 ≠ 255) ∧
    fieldOf [0] 0 1 = (0 : Chan).val ∧ fieldOf [15] 0 1 = (15 : Chan).val ∧ fieldOf [255] 0 1 = 255 := by decide +kernel

theorem witness_ScheduleTickTakesFirstDue :
    (let s : State := { coord with sched := { nineDue with tick := some ⟨4, 1, {}⟩ } };
      s.sched.work = none ∧ s.sched.tick = some ⟨4, 1, {}⟩ ∧ s.sched.dueAt 4 = []) ∧
    (let s : State := { coord with sched := { nineDue with tick := some ⟨5, 1, {}⟩ } };
      s.sched.work = none ∧ s.sched.tick = some ⟨5, 1, {}⟩ ∧
      s.sched.dueAt 5 = s.sched.entries.head (by decide) :: s.sched.entries.tail.take 7) ∧
    (let s : State := { coord with sched := { nineDue with work := some ⟨5, 1, nineDue.entries.take 2, none, {}, [], false⟩ } };
      s.sched.work.map Work.handed = some none ∧ (s.sched.work.map Work.rest).getD [] ≠ []) ∧
    (let s : State := { coord with sched := { nineDue with work := some ⟨5, 1, [], nineDue.entries.head?, {}, [], true⟩ } };
      (s.sched.work.bind Work.handed).isSome = true) := by
  refine ⟨?_, ?_, ?_, ?_⟩ <;> decide +kernel

/-- An entry whose guard is not met, a mark whose guard is met, an action without a guard; and a slice of 8 and of 1. -/
theorem witness_ScheduleTickTakesFirstDue_entries :
    (let e : Entry := { setEntry with guard := some ⟨11, true⟩ };
      base.guardFails e) ∧
    (let e : Entry := { setEntry with action := .mark, guard := some ⟨11, false⟩ };
      ¬ base.guardFails e ∧ e.action = .mark) ∧
    (¬ base.guardFails setEntry ∧ setEntry.action ≠ .mark) ∧
    (let s : State := { base with sched := { nineDue with tick := some ⟨5, 1, {}⟩ } };
      exec (.scheduleTick 1) s = .next (after (.scheduleTick 1) s) ∧ (after (.scheduleTick 1) s).sched.work.isSome = true) ∧
    (let s : State := { base with sched := { nineDue with tick := some ⟨4, 1, {}⟩ } };
      exec (.scheduleTick 1) s = .next (after (.scheduleTick 1) s) ∧ (after (.scheduleTick 1) s).sched.work.isSome = false) ∧
    (∀ rest ∈ [[], [setEntry]],
      let w : Work := ⟨5, 1, { setEntry with tag := 2, action := .mark } :: rest, none, {}, [(0, 1)], false⟩;
      let s : State := { base with sched := { work := some w } };
      s.sched.work = some w ∧ w.handed = none ∧ w.rest = { setEntry with tag := 2, action := .mark } :: rest) := by
  refine ⟨⟨_, rfl, by decide +kernel⟩, ⟨?_, rfl⟩, ⟨?_, by decide⟩, ⟨rfl, by decide +kernel⟩, ⟨rfl, by decide +kernel⟩,
    by decide +kernel⟩
  · rintro ⟨g, h, hne⟩
    cases h
    exact hne (by decide +kernel)
  · rintro ⟨g, h, -⟩
    cases h

/-- A list of one entry with a repeat. -/
def repeating (rep : Option Repetition) (due : Nat) : Schedule :=
  { entries := [{ setEntry with tag := 1, due := due, rep := rep }], tagCounter := 2, insertions := 1, counts := #v[1, 0, 0, 0] }

theorem repeating_ok (rep : Option Repetition) (due : Nat) (h : due ≤ 2 ^ 48 - 1) : (repeating rep due).Ok := by
  constructor
  · simp [repeating, Config.scheduleCapacity]
  · simp [repeating]
  · simp [repeating]
  · simp [repeating, Config.max16]
  · simp [repeating, setEntry]
  · simpa [repeating, Config.lastMachTime] using h
  · intro p; fin_cases p <;> rfl
  · intro p; fin_cases p <;> simp [repeating, Config.portQuota]
  · simp [repeating, Config.max16]
  · intro w h; cases h

/-- No repeat, no use left, a next time past the end; a last use, a use without end, and a next time at the very end. -/
theorem witness_RepeatIsReinserted :
    (∀ x ∈ [(none, 5), (some (⟨1, some 0⟩ : Repetition), 5), (some ⟨1, none⟩, 2 ^ 48 - 1)],
      (repeating x.1 x.2).Ok ∧ { setEntry with tag := 1, due := x.2, rep := x.1 } ∈ (repeating x.1 x.2).entries ∧
      ∀ r, x.1 = some r → r.remaining = some 0 ∨ 2 ^ 48 - 1 < x.2 + r.interval) ∧
    (∀ x ∈ [((⟨1, some 1⟩ : Repetition), 5), (⟨2 ^ 32 - 1, none⟩, 5), (⟨1, some 65535⟩, 2 ^ 48 - 2)],
      (repeating (some x.1) x.2).Ok ∧ { setEntry with tag := 1, due := x.2, rep := some x.1 } ∈ (repeating (some x.1) x.2).entries ∧
      x.1.remaining ≠ some 0 ∧ x.2 + x.1.interval ≤ 2 ^ 48 - 1) := by
  constructor
  · simp only [List.mem_cons, List.not_mem_nil, or_false, forall_eq_or_imp, forall_eq]
    refine ⟨⟨repeating_ok _ _ (by decide), ?_, ?_⟩, ⟨repeating_ok _ _ (by decide), ?_, ?_⟩, ⟨repeating_ok _ _ (by decide), ?_, ?_⟩⟩ <;>
      simp [repeating]
  · simp only [List.mem_cons, List.not_mem_nil, or_false, forall_eq_or_imp, forall_eq]
    refine ⟨⟨repeating_ok _ _ (by decide), ?_, ?_⟩, ⟨repeating_ok _ _ (by decide), ?_, ?_⟩, ⟨repeating_ok _ _ (by decide), ?_, ?_⟩⟩ <;>
      simp [repeating]

/-- The schedule has handed the action of an entry to the channels at the tick with machine time 5. -/
def applying (e : Entry) (s : State) : State :=
  { s with sched := { entries := [e], counts := #v[1, 0, 0, 0], work := some { time := 5, ordinal := 3, rest := [], handed := some e } } }

/-- A GROUP_SET of every channel. -/
def groupEntry : Entry := { setEntry with action := .groupSet 0xFFFF 0x8001 }

/-- Every channel leased to P0. -/
def holdsAll : State := { base with leases := Vector.replicate 17 { holder := some 0 } }

/-- A GROUP_SET applied and refused, with entries left of its tick and with none left. -/
theorem witness_RepeatIsReinserted_application :
    ∀ start ∈ [holdsAll, base], ∀ rest ∈ [[], [setEntry]],
      let w : Work := ⟨5, 3, rest, some groupEntry, {}, [(0, 7)], true⟩;
      let s : State := { start with sched := { entries := [groupEntry], counts := #v[1, 0, 0, 0], work := some w } };
      s.sched.work = some w ∧ w.handed = some groupEntry := by decide +kernel

/-- Channel C0 locked by G3, and channel C0 not leased. -/
theorem witness_ApplicationRefusedChangesNoChannel :
    (let s := applying setEntry (coord.setChan 0 { lockSet := 8 });
      s.sched.work.bind Work.handed = some setEntry ∧ ∃ c, setEntry.namesChan c = true ∧ (s.chan c).lockSet ≠ 0) ∧
    (let s := applying setEntry base;
      s.sched.work.bind Work.handed = some setEntry ∧ (∃ c, setEntry.namesChan c = true ∧ s.chanHolder c ≠ some setEntry.owner) ∧
      ∀ c, setEntry.namesChan c = true → (s.chan c).lockSet = 0) := by decide +kernel

/-- A SET, and a PULSE and a TRAIN at both ends of their ranges, on C0 with and without a waveform. -/
theorem witness_ApplicationDrivesItsChannel :
    ∀ a ∈ [Action.set 0 true, .pulse 0 1, .pulse 0 16777215, .train 0 2 1 0, .train 0 16777215 16777214 65535],
      ∀ w ∈ [none, some (⟨9, 2, true, .pulse, false, true, 1, 0⟩ : Wave)],
        let e : Entry := { setEntry with action := a };
        let s := applying e (coord.setChan 0 { level := w.isSome, wave := w });
        s.sched.work.bind Work.handed = some e ∧ (s.chan 0).lockSet = 0 ∧ s.chanHolder 0 = some e.owner ∧ e.action = a := by
  decide +kernel

theorem witness_GroupSetSetsEveryMaskedChannel :
    (let s := applying groupEntry holdsAll;
      s.sched.work.bind Work.handed = some groupEntry ∧ groupEntry.action = .groupSet 0xFFFF 0x8001 ∧
      ∀ c : Chan, (0xFFFF : ChanSet).getLsbD c.val = true → (s.chan c).lockSet = 0 ∧ s.chanHolder c = some groupEntry.owner) ∧
    (let s := applying groupEntry (holdsAll.setChan 15 { lockSet := 1 });
      s.sched.work.bind Work.handed = some groupEntry ∧
      ∃ c : Chan, (0xFFFF : ChanSet).getLsbD c.val = true ∧ (s.chan c).lockSet ≠ 0) ∧
    (let s := applying groupEntry (holdsAll.setLease 15 { holder := some 3 });
      s.sched.work.bind Work.handed = some groupEntry ∧
      (∀ c : Chan, (0xFFFF : ChanSet).getLsbD c.val = true → (s.chan c).lockSet = 0) ∧
      ∃ c : Chan, (0xFFFF : ChanSet).getLsbD c.val = true ∧ s.chanHolder c ≠ some groupEntry.owner) := by decide +kernel

/-- The start tick and a later one; a pulse end; and trains: without end, not at the last pulse, at the last of 1 and of 65,535, and
in a REST phase. -/
theorem witness_WaveformsCountAndTakeEdges :
    (∀ n ∈ [7, 8],
      let s := base.setChan 5 { wave := some ⟨40, 2, true, .pulse, false, true, 1, 7⟩, tick := some ⟨9, n, {}⟩ };
      (s.chan 5).tick = some ⟨9, n, {}⟩ ∧ (s.chan 5).edgeDue = false) ∧
    (∀ notify ∈ [true, false], let w : Wave := ⟨40, 2, notify, .pulse, false, true, 0, 7⟩;
      ((base.setChan 5 { level := true, wave := some w }).chan 5).wave = some w ∧ w.kind = .pulse ∧ w.ticksLeft = 0) ∧
    (∀ x ∈ [(true, 0, 0), (true, 0, 65535), (true, 2, 0), (true, 65535, 65533), (true, 1, 0), (true, 65535, 65534), (false, 3, 1)],
      let w : Wave := ⟨41, 2, true, .train 1 4 x.2.1 x.2.2, false, x.1, 0, 7⟩;
      ((base.setChan 5 { wave := some w }).chan 5).wave = some w ∧ w.kind = .train 1 4 x.2.1 x.2.2 ∧ w.ticksLeft = 0 ∧
      (w.active = true → (x.2.1 = 0 ∨ x.2.2 + 1 < x.2.1) ∨ (x.2.1 ≤ 65535 ∧ x.2.2 + 1 = x.2.1))) := by decide +kernel

/-- A lease end of P0 on C0 at a stage. -/
def ending (cause : EndCause) (stage : EndStage) : Lease := { ending := some ⟨cause, 0, stage, {}⟩ }

theorem witness_LeaseEndShareAppliesPolicy :
    ∀ x ∈ [({} : Channel), { lockSet := 1 }, { policy := .safe, safe := true },
        { level := true, wave := some ⟨9, 0, true, .pulse, false, true, 1, 0⟩ }],
      let s := (base.setChan 0 x).setLease 0 (ending .release .shareHanded);
      (s.lease (resOf 0)).ending = some ⟨.release, 0, .shareHanded, {}⟩ := by decide +kernel

/-- Locks and unlocks by G0 and G3 at a channel with an empty and a full lock set, leased and not. -/
theorem witness_LockAndUnlockChangeTheLockSet :
    ∀ g ∈ [(0 : GroupId), 3], ∀ lock ∈ [true, false], ∀ set ∈ [(0 : LockSet), 1, 8, 15], ∀ start ∈ [base, coord],
      let m : LockMsg := { group := g, chan := 0, lock := lock };
      let s := { start.setChan 0 { lockSet := set } with lockMsgs := [m] };
      s.nextLockMsg 0 g = some m ∧ m.lock = lock := by decide +kernel

theorem witness_ConfigurationRequestsSetTheirFields :
    (∀ x ∈ [[(16 : Byte), 0, 0], [0, 2, 0], [0, 0, 2]],
      (ask .channelConfig x coord).handedRequest 0 .channelConfig = some (x, {}) ∧ channelConfigArgs x = none) ∧
    (∀ start ∈ [base, coord, coord.setChan 0 { lockSet := 1 }],
      (ask .channelConfig [0, 1, 1] start).handedRequest 0 .channelConfig = some ([0, 1, 1], {})) ∧
    channelConfigArgs [0, 1, 1] = some (0, true, .safe) ∧ channelConfigArgs [15, 0, 0] = some (15, false, .keep) ∧
    (∀ x ∈ [((0 : LineId), EdgeMode.off, 0, 0, [(0 : Byte), 0, 0, 0]), (11, .both, 255, 7, [11, 3, 255, 7])],
      (ask .lineConfig x.2.2.2.2 coord).handedRequest 0 .lineConfig = some (x.2.2.2.2, {}) ∧
      lineConfigArgs x.2.2.2.2 = some (x.1, x.2.1, x.2.2.1, x.2.2.2.1) ∧
      (ask .lineConfig x.2.2.2.2 coord).isCoordinator 0 = true) := by decide +kernel

/-! Leases. -/

theorem witness_ClaimGrantsOrQueues :
    (ask .claim [17, 0, 0, 0, 0, 0, 0] base).handedRequest 0 .claim = some ([17, 0, 0, 0, 0, 0, 0], {}) ∧
    claimArgs [17, 0, 0, 0, 0, 0, 0] = none ∧
    claimArgs [16, 0, 0, 0, 0, 0, 0] = some (timeline, 0, 0) ∧
    claimArgs [0, 255, 255, 255, 255, 255, 255] = some (0, 16777215, 16777215) ∧
    (∀ x ∈ [({} : Lease), { holder := some 0 }, { holder := some 3 }, { holder := some 3, queue := [⟨0, 0, 0, 0⟩] },
        ending .release .purgeHanded],
      (ask .claim [0, 255, 255, 255, 255, 255, 255] (base.setLease 0 x)).handedRequest 0 .claim =
        some ([0, 255, 255, 255, 255, 255, 255], {})) ∧
    (∀ now ∈ [(4999, false), (5000, true)],
      let s := ask .claim [0, 0, 0, 0, 0, 0, 0]
        (withTime { wallTime := now.1 } (base.setLease 0 { holder := some 3, holdLimit := 5000 }))
      s.handedRequest 0 .claim = some ([0, 0, 0, 0, 0, 0, 0], {}) ∧ claimArgs [0, 0, 0, 0, 0, 0, 0] = some (0, 0, 0) ∧
      ¬ (s.holder 0 = some 0 ∨ ∃ c ∈ (s.lease 0).queue, c.port = 0) ∧
      decide ((s.lease 0).holdLimit ≤ s.wallSince (s.lease 0).grantWall) = now.2) := by
  refine ⟨?_, ?_, ?_, ?_, ?_, ?_⟩ <;> decide +kernel

theorem witness_ReleaseEndsOrWithdraws :
    (∀ x ∈ [(0 : Byte), 16, 17], ∀ start ∈ [coord, base, base.setLease 0 { holder := some 3, queue := [⟨0, 0, 0, 0⟩] }],
      (ask .release [x] start).handedRequest 0 .release = some ([x], {})) ∧
    resourceArg [0] = some 0 ∧ resourceArg [16] = some timeline ∧ resourceArg [17] = none ∧
    coord.holder 0 = some 0 ∧ coord.holder timeline = some 0 ∧
    (let s := base.setLease 0 { holder := some 3, queue := [⟨0, 0, 0, 0⟩] };
      s.holder 0 ≠ some 0 ∧ ∃ c ∈ (s.lease 0).queue, c.port = 0) ∧
    (base.holder 0 ≠ some 0 ∧ ∀ c ∈ (base.lease 0).queue, c.port ≠ 0) ∧
    (let s := ask .release [16] (waiting timeline { holder := some 0 });
      s.handedRequest 0 .release = some ([16], {}) ∧ s.holder timeline = some 0 ∧
      (s.lease timeline).queue = [⟨2, 5, 6, 7⟩] ++ ⟨3, 0, 16777215, 0⟩ :: [] ∧ s.isClosing 2 = true ∧ s.isClosing 3 = false) := by
  refine ⟨?_, ?_, ?_, ?_, ?_, ?_, ?_, ?_, ?_⟩ <;> decide +kernel

/-- At the end of T's lease the claim of the CLOSING P2 is passed over and P3 is granted T; with P2's alone nobody holds it. -/
theorem test_release_of_timeline :
    (let t := after (.release 0) (ask .release [16] (waiting timeline { holder := some 0 }));
      t.holder timeline = some 3 ∧ posted t = [(3, .granted, 16, 0)]) ∧
    (let t := after (.release 0) (ask .release [16]
        ((base.setPort 2 closingPort).setLease timeline { holder := some 0, queue := [⟨2, 5, 6, 7⟩] }));
      t.holder timeline = none ∧ (t.lease timeline).queue = [] ∧ posted t = []) := by
  constructor <;> decide +kernel

/-- Each stage of a lease end; at the grant step a claim of a CLOSING port before that of an OPEN one, and no claim left; the old
holder's part of a teardown under way with no other lease end left and with one left, and no part under way. -/
theorem witness_LeaseEndRunsItsSteps :
    (∀ cause ∈ [EndCause.release, .revoke, .teardown], ∀ stage ∈ [EndStage.purgeHanded, .purgeReported, .shareReported],
      ((base.setLease (resOf 15) (ending cause stage)).lease (resOf 15)).ending = some ⟨cause, 0, stage, {}⟩ ∧
      (base.setLease (resOf 15) (ending cause stage)).scheduleBusy = false) ∧
    (let s := (base.setPort 2 { openedPort with session := .closing, cause := some .detach }).setLease (resOf 15)
        { ending .revoke .shareReported with queue := [⟨2, 5, 6, 7⟩] ++ ⟨3, 8, 9, 10⟩ :: [⟨1, 0, 0, 0⟩] };
      (s.lease (resOf 15)).queue = [⟨2, 5, 6, 7⟩] ++ ⟨3, 8, 9, 10⟩ :: [⟨1, 0, 0, 0⟩] ∧
      (∀ x ∈ [(⟨2, 5, 6, 7⟩ : Claim)], s.isClosing x.port = true) ∧ s.isClosing 3 = false) ∧
    (∀ queue ∈ [[], [(⟨2, 5, 6, 7⟩ : Claim)]],
      let s := (base.setPort 2 { openedPort with session := .closing, cause := some .detach }).setLease (resOf 15)
        { ending .revoke .shareReported with queue := queue };
      ∀ x ∈ (s.lease (resOf 15)).queue, s.isClosing x.port = true) ∧
    (∀ leases ∈ [PartStage.working, .idle],
      let s := (base.setPort 0 { closingPort with parts := ⟨.idle, leases, .idle, .idle⟩ }).setLease (resOf 15)
        (ending .teardown .shareReported);
      (s.lease (resOf 15)).ending = some ⟨.teardown, 0, .shareReported, {}⟩ ∧ (s.port 0).parts.leases = leases ∧
      ∀ r, r ≠ resOf 15 → (s.lease r).ending = none) ∧
    (let s := ((base.setPort 0 { closingPort with parts := ⟨.idle, .working, .idle, .idle⟩ }).setLease (resOf 15)
        (ending .teardown .shareReported)).setLease (resOf 14) (ending .teardown .purgeHanded);
      (s.lease (resOf 15)).ending = some ⟨.teardown, 0, .shareReported, {}⟩ ∧ (s.port 0).parts.leases = .working ∧
      resOf 14 ≠ resOf 15 ∧ (s.lease (resOf 14)).ending = some ⟨.teardown, 0, .purgeHanded, {}⟩) := by decide +kernel

/-- A lease at its hold limit with a claim behind it, the same before its limit, a claim at its wait limit, one before it and one with none,
and wall time at both ends of its range. -/
theorem witness_LimitsEndLeasesAndClaims :
    (∀ r ∈ [(0 : ResId), timeline],
      let s := withTime { wallTime := 5000 } (base.setLease r
        { holder := some 1, holdLimit := 5000, queue := [⟨3, 0, 0, 0⟩], revokeDue := true });
      s.holder r = some 1 ∧ s.contested r = true ∧ (s.lease r).revokeDue = true) ∧
    (let s := withTime { wallTime := 5000 } (waiting timeline { holder := some 1, holdLimit := 5000, revokeDue := true });
      s.holder timeline = some 1 ∧ s.contested timeline = true ∧ (s.lease timeline).revokeDue = true ∧
      (s.lease timeline).queue = [⟨2, 5, 6, 7⟩] ++ ⟨3, 0, 16777215, 0⟩ :: [] ∧ s.isClosing 2 = true ∧ s.isClosing 3 = false) ∧
    (let s := withTime { wallTime := 4999 } (base.setLease 0
        { holder := some 1, holdLimit := 5000, queue := [⟨3, 0, 0, 0⟩], revokeDue := true });
      s.holder 0 = some 1 ∧ (s.lease 0).revokeDue = true ∧ s.contested 0 = false) ∧
    (∀ r ∈ [(0 : ResId), timeline], ∀ n ∈ [1, 16777215],
      let s := withTime { wallTime := n } (base.setLease r { holder := some 1, queue := [⟨3, 0, n, 0⟩] });
      ((s.lease r).queue.find? fun c => c.port == 3) = some ⟨3, 0, n, 0⟩ ∧ n ≠ 0 ∧ n ≤ s.wallSince 0) ∧
    (∀ c ∈ (base.lease 0).queue, c.port ≠ 3) ∧
    (∀ x ∈ [(0, 16777215), (5, 4)],
      let s := withTime { wallTime := x.2 } (base.setLease 0 { holder := some 1, queue := [⟨3, 0, x.1, 0⟩] });
      ((s.lease 0).queue.find? fun c => c.port == 3) = some ⟨3, 0, x.1, 0⟩ ∧ (x.1 = 0 ∨ s.wallSince 0 < x.1)) ∧
    (base.contested 0 = false ∧ (withTime { wallTime := 5000 } (base.setLease 0
      { holder := some 1, holdLimit := 5000, queue := [⟨3, 0, 0, 0⟩] })).contested 0 = true) ∧
    (∀ n ∈ [0, 2 ^ 48 - 1], (withTime { wallTime := n } base).tb.wallTime < 2 ^ 48) := by
  refine ⟨?_, ?_, ?_, ?_, ?_, ?_, ?_, ?_⟩ <;> decide +kernel

/-- R94: a revocation of T posts REVOKED and then GRANTED, in one event. -/
theorem test_revocation_of_timeline :
    let t := after (.revocation timeline)
      (withTime { wallTime := 5000 } (waiting timeline { holder := some 1, holdLimit := 5000, revokeDue := true }))
    posted t = [(1, .revoked, 16, 5000), (3, .granted, 16, 0)] ∧ t.holder timeline = some 3 := by decide +kernel

/-- P0 holds T and C0, and P1 nothing. -/
theorem witness_LeaseTeardownEndsEverything :
    (∀ p ∈ [(0 : Port), 1],
      ((coord.setPort p closingPort).port p).parts.leases = .handed {} ∧ (coord.setPort p closingPort).LeasesOk ∧
      (∀ r e, ((coord.setPort p closingPort).lease r).ending = some e → ¬ (e.cause = .teardown ∧ e.old = p)) ∧
      (coord.setPort p closingPort).isClosing p = true) ∧
    (∃ c : Chan, (coord.setPort 0 closingPort).chanHolder c = some 0) ∧
    ¬ ∃ c : Chan, (coord.setPort 1 closingPort).chanHolder c = some 1 := by
  refine ⟨?_, by decide +kernel, by decide +kernel⟩
  have none : ∀ p ∈ [(0 : Port), 1], ∀ r, ((coord.setPort p closingPort).lease r).ending = Option.none := by decide +kernel
  have parts : ∀ p ∈ [(0 : Port), 1], ((coord.setPort p closingPort).port p).parts.leases = .handed {} ∧
      (coord.setPort p closingPort).isClosing p = true := by decide +kernel
  intro p hp
  refine ⟨(parts p hp).1, coord_leasesOk _ _, fun r e h => ?_, (parts p hp).2⟩
  rw [none p hp r] at h
  cases h

/-- P0, CLOSING, holds T, and P2 and P3 wait for it. -/
theorem witness_LeaseTeardownEndsEverything_timeline :
    let s := (waiting timeline { holder := some 0 }).setPort 0 closingPort;
    (s.port 0).parts.leases = .handed {} ∧ s.LeasesOk ∧
    (∀ r e, (s.lease r).ending = some e → ¬ (e.cause = .teardown ∧ e.old = 0)) ∧ s.isClosing 0 = true ∧
    s.holder timeline = some 0 ∧ (s.lease timeline).queue.length = 2 ∧ s.isClosing 2 = true ∧ s.isClosing 3 = false := by
  have none : ∀ r, (((waiting timeline { holder := some 0 }).setPort 0 closingPort).lease r).ending = Option.none := by
    decide +kernel
  refine ⟨by decide +kernel, ⟨(waiting_leasesOk _).each, (waiting_leasesOk _).timeline⟩, fun r e h => ?_, by decide +kernel,
    by decide +kernel, by decide +kernel, by decide +kernel, by decide +kernel⟩
  rw [none r] at h
  cases h

/-! Lines. -/

/-- Samples equal to the qualified level; different with q 0; different at the last but one and the last sample of a run, q at both
ends of its range. -/
theorem witness_SamplesQualifyTheLine :
    base.inReset = false ∧ (base.line 0).qualified = false ∧ (base.line 0).q = 0 ∧ (true ≠ (base.line 0).qualified) ∧
    (∀ q ∈ [1, 255], let s := base.setLine 11 { q := q, stable := q * 16 - 2 };
      s.inReset = false ∧ true ≠ (s.line 11).qualified ∧ 1 ≤ (s.line 11).q ∧ (s.line 11).stable + 1 < (s.line 11).q * 16) ∧
    (∀ q ∈ [1, 255], let s := base.setLine 11 { q := q, stable := q * 16 - 1 };
      s.inReset = false ∧ true ≠ (s.line 11).qualified ∧ 1 ≤ (s.line 11).q ∧ (s.line 11).q * 16 ≤ (s.line 11).stable + 1) ∧
    (∀ q ∈ [1, 255], let s := base.setLine 11 { q := q };
      1 ≤ (s.line 11).q ∧ (s.line 11).stable = 0) := by decide +kernel

/-- Each edge mode, each direction, and the decimation count one before its end and at its end, d at both ends of its range. -/
theorem witness_QualifiedChangeIsHandedOn :
    ∀ mode ∈ [EdgeMode.off, .rise, .fall, .both], ∀ level ∈ [true, false], ∀ x ∈ [(0, 0), (7, 126), (7, 127)],
      let s := base.setLine 11 { mode := mode, qualified := !level, d := x.1, decim := x.2 };
      s.inReset = false ∧ (s.line 11).completes level = true := by decide +kernel

/-! The journal. -/

/-- A ring of `n` marks, with P0 subscribed to marks at the tail. -/
def ringOf (n : Nat) (mode : SubMode) : Journal :=
  { ring := (List.range' 0 n).map fun k => ⟨BitVec.ofNat 32 k, .mark 0 1 0 0⟩, seqCounter := BitVec.ofNat 32 n,
    subs := #v[some ⟨markKind, mode, 0, false⟩, none, none, none] }

/-- An offer that waits: wanted by nobody, lost at a full ring whose tail is needed, stored at 511 entries and at a full ring whose
tail is not needed. -/
theorem witness_OfferIsStoredOrLost :
    (∀ o ∈ [OfferBody.edge 11 true, .mark 0 1 0, .trip 3 0],
      let s : State := { base with offers := [{ body := o }] };
      (s.offers.find? fun x => x.body.source == o.source) = some { body := o } ∧
      ¬ ∃ p sub, s.isOpen p = true ∧ s.sub p = some sub ∧ o.within sub.mask) ∧
    (∀ x ∈ [(512, SubMode.keep), (511, .keep), (512, .skim)],
      let s : State := { base with journal := ringOf x.1 x.2, offers := [{ body := .mark 0 1 0 }] };
      (s.offers.find? fun x => x.body.source == .schedule) = some { body := .mark 0 1 0 } ∧
      (∃ p sub, s.isOpen p = true ∧ s.sub p = some sub ∧ (OfferBody.mark 0 1 0).within sub.mask) ∧
      (x = (512, .keep) → s.journal.ring.length = 512 ∧ s.journal.tailNeeded = true) ∧
      (x ≠ (512, .keep) → s.journal.ring.length ≤ 512 ∧
        (s.journal.ring.length < 512 ∨ s.journal.tailNeeded = false))) := by
  have empty : ∀ p, base.sub p = none := by decide
  constructor
  · intro o ho
    refine ⟨by simp, ?_⟩
    rintro ⟨p, sub, -, h, -⟩
    exact absurd ((empty p).symm.trans h) (by simp)
  · intro x hx
    refine ⟨rfl, ⟨0, ⟨markKind, x.2, 0, false⟩, rfl, rfl, ?_⟩, ?_⟩
    · show markKind.getLsbD 12 = true
      decide
    · revert x
      decide +kernel

theorem ringOf_subs (n : Nat) (mode : SubMode) (p : Port) (sub : Subscription) (h : (ringOf n mode).subs[p] = some sub) :
    sub = ⟨markKind, mode, 0, false⟩ := by
  fin_cases p
  · exact (Option.some.inj h).symm
  · cases h
  · cases h
  · cases h

theorem consecutive_marks (n : Nat) : ∀ a : Nat,
    consecutive (BitVec.ofNat 32 a) ((List.range' a n).map fun k => ⟨BitVec.ofNat 32 k, .mark 0 1 0 0⟩) := by
  induction n with
  | zero => exact fun _ => trivial
  | succ n ih =>
    intro a
    refine ⟨rfl, ?_⟩
    have : BitVec.ofNat 32 a + 1 = BitVec.ofNat 32 (a + 1) := by rw [BitVec.ofNat_add]; rfl
    rw [this]
    exact ih (a + 1)

theorem ringOf_two_ok (mode : SubMode) : (ringOf 2 mode).Ok where
  capacity := show 2 ≤ 512 by decide
  numbers := consecutive_marks 2 0
  counter := rfl
  cursors p sub h := by
    rw [ringOf_subs 2 mode p sub h]
    show ((0 : SeqNum) - BitVec.ofNat 32 0).toNat ≤ 2
    decide
  masks p sub h := by rw [ringOf_subs 2 mode p sub h]; exact show markKind ≠ 0 by decide
  keep p sub h _ := by rw [ringOf_subs 2 mode p sub h]
  lost := show 0 ≤ 65535 by decide
  lostKinds := ⟨fun _ => rfl, fun _ => rfl⟩
  pending h := absurd rfl h

/-- A full ring whose tail P0 needs, with one loss pending. -/
def lossy : Journal := { ringOf 512 .keep with lostCount := 1, lostMask := 1 }

theorem lossy_ok : lossy.Ok where
  capacity := by decide +kernel
  numbers := consecutive_marks 512 0
  counter := by decide +kernel
  cursors p sub h := by
    rw [ringOf_subs 512 .keep p sub h]
    decide +kernel
  masks p sub h := by rw [ringOf_subs 512 .keep p sub h]; decide
  keep p sub h _ := by rw [ringOf_subs 512 .keep p sub h]
  lost := by decide +kernel
  lostKinds := by decide +kernel
  pending _ := by decide +kernel

theorem witness_SubscriptionsComeAndGo :
    (∀ x ∈ [[(0 : Byte), 0, 0, 0], [64, 0, 0, 0], [0, 1, 2, 0], [0, 1, 0, 2]],
      (ask .subscribe x base).handedRequest 0 .subscribe = some (x, {}) ∧ subscribeArgs x = none) ∧
    (∀ x ∈ [((1 : KindMask), SubMode.keep, false, [(0 : Byte), 1, 0, 0]), (0x3FFF, .skim, true, [63, 255, 1, 1])],
      (ask .subscribe x.2.2.2 base).handedRequest 0 .subscribe = some (x.2.2.2, {}) ∧
      subscribeArgs x.2.2.2 = some (x.1, x.2.1, x.2.2.1) ∧ (ask .subscribe x.2.2.2 base).sub 0 = none ∧
      ({ ask .subscribe x.2.2.2 base with journal := ringOf 2 .keep } : State).sub 0 = some ⟨markKind, .keep, 0, false⟩) ∧
    (ask .unsubscribe [] base).handedRequest 0 .unsubscribe = some ([], {}) ∧ (ask .unsubscribe [] base).sub 0 = none ∧
    (({ ask .unsubscribe [] base with journal := ringOf 2 .keep } : State).sub 0).isSome = true ∧ (ringOf 2 .keep).lostCount = 0 ∧
    (∀ journal ∈ [({} : Journal), ringOf 2 .keep],
      (({ base with journal := journal } : State).setPort 0 closingPort |>.port 0).parts.journal = .handed {} ∧
      journal.lostCount = 0) := by decide +kernel

/-- With losses pending at a full ring, the removal of the only KEEP reader makes the GAP due; a second one at the tail keeps it
waiting. -/
theorem witness_SubscriptionsComeAndGo_losses :
    let other : Journal := { lossy with subs := lossy.subs.set 1 (some ⟨markKind, .keep, 0, false⟩) };
    (∀ x ∈ [(lossy, true), (other, false)],
      let s := { ask .unsubscribe [] base with journal := x.1 };
      s.handedRequest 0 .unsubscribe = some ([], {}) ∧ (s.sub 0).isSome = true ∧ s.journal.lostCount ≠ 0 ∧
      s.journal.ring.length = 512 ∧ ((s.setSub 0 none).clearLatch 0).gapDue = x.2) ∧
    (∀ x ∈ [(lossy, true), (other, false)],
      let s := ({ base with journal := x.1 } : State).setPort 0 closingPort;
      (s.port 0).parts.journal = .handed {} ∧ (s.sub 0).isSome = true ∧ s.journal.ring.length = 512 ∧
      (s.setSub 0 none).gapDue = x.2) := by
  constructor <;> decide +kernel

theorem witness_SubscriptionsComeAndGo_journal : ({ base with journal := ringOf 2 .keep } : State).journal.Ok := ringOf_two_ok _

/-- READ with n just out of range and at both ends of its range; losses pending at a full ring whose tail nobody needs, and whose tail
is needed. -/
theorem witness_ReadsAndGapsKeepTheOrder :
    (∀ x ∈ [[(0 : Byte)], [4]], (ask .read x base).handedRequest 0 .read = some (x, {}) ∧ readArg x = none) ∧
    (∀ x ∈ [(1, [(1 : Byte)]), (3, [3])],
      let s := { ask .read x.2 base with journal := ringOf 2 .keep };
      s.handedRequest 0 .read = some (x.2, {}) ∧ readArg x.2 = some x.1 ∧ s.sub 0 = some ⟨markKind, .keep, 0, false⟩ ∧
      s.journal.lostCount = 0 ∧ (ask .read x.2 base).sub 0 = none) ∧
    (∀ n ∈ [1, 65535],
      let s : State := { base with journal := { ringOf 512 .skim with lostCount := n, lostMask := 1 } };
      s.journal.lostCount ≠ 0 ∧ s.journal.tailNeeded = false ∧ s.journal.ring.length = 512) ∧
    base.journal.lostCount = 0 ∧
    (let s := { ask .read [1] base with journal := lossy };
      s.handedRequest 0 .read = some ([1], {}) ∧ s.sub 0 = some ⟨markKind, .keep, 0, false⟩ ∧ s.journal.lostCount ≠ 0 ∧
      s.journal.tailNeeded = true) := by
  decide +kernel

/-- A READ that returns n entries and one that reaches the head; a READ that frees the tail with losses pending; a GAP that is due,
and none. -/
theorem witness_ReadsAndGapsKeepTheOrder_cases :
    (((ringOf 2 .keep).fromCursor 0).filter fun e => e.hits markKind).length = 2 ∧
    (∀ n ∈ [1, 3], let s := { ask .read [BitVec.ofNat 8 n] base with journal := lossy };
      s.handedRequest 0 .read = some ([BitVec.ofNat 8 n], {}) ∧ readArg [BitVec.ofNat 8 n] = some n ∧
      (((s.journal.fromCursor 0).filter fun e => e.hits markKind).take n).length = n ∧
      (s.setSub 0 (some ⟨markKind, .keep, BitVec.ofNat 32 n, false⟩)).gapDue = true) ∧
    (∀ n ∈ [1, 65535],
      let s : State := { base with journal := { ringOf 512 .skim with lostCount := n, lostMask := markKind } };
      s.gapDue = true ∧ s.readsGap 0 = true ∧ s.journal.ring.length = 512) ∧
    base.gapDue = false ∧ ({ base with journal := lossy } : State).gapDue = false := by
  refine ⟨?_, ?_, ?_, ?_, ?_⟩ <;> decide +kernel

/-- R126 with R123: a READ of one entry at the tail of a full ring with one loss pending stores the GAP, and MORE is answered. -/
theorem test_read_stores_the_gap :
    let t := after (.read 0) { ask .read [1] base with journal := lossy }
    t.journal.lostCount = 0 ∧ (t.journal.ring.getLast?.map JournalEntry.body) = some (.gap 1 1 0) ∧
    (t.sub 0).map Subscription.cursor = some 1 := by decide +kernel

theorem witness_ReadsAndGapsKeepTheOrder_journal :
    ({ ask .read [1] base with journal := ringOf 2 .keep } : State).journal.Ok ∧
    ({ ask .read [1] base with journal := lossy } : State).journal.Ok := ⟨ringOf_two_ok _, lossy_ok⟩

/-! Trip groups. -/

/-- An ARMED group that trips, one at the other level, one that is not armed. -/
theorem witness_ActiveLevelTripsTheGroup :
    ∀ x ∈ [({ state := .armed, sources := 0x800, channels := 0xFFFF } : Group),
        { state := .armed, sources := 0x800, active := false, channels := 1 }, {}],
      let m : LineMsg := { group := 3, line := 11, level := true };
      let s := { coord.setGroup 3 x with lineMsgs := [m] };
      s.nextLineMsg 3 11 = some m := by decide +kernel

/-- Several locks outstanding with several reports waiting, the last one, and one purge and two purges that wait. -/
theorem witness_LastLockReportHandsThePurge :
    (∀ n ∈ [1, 16], ((base.setGroup 3 { state := .tripped, channels := 0xFFFF, locksOut := n, reports := [{}] }).group 3).reports
      = {} :: []) ∧
    (let s := base.setGroup 3 { state := .tripped, channels := 3, locksOut := 2, reports := [{ channels := 1 }, {}] };
      (s.group 3).reports = { channels := 1 } :: [{}]) ∧
    (let s := base.setGroup 3 { state := .tripped, channels := 1, purges := [⟨1, {}⟩] };
      (s.group 3).purges = ⟨1, {}⟩ :: [] ∧ s.scheduleBusy = false) ∧
    (let s := { base.setGroup 3 { state := .tripped, channels := 2, purges := [⟨1, {}⟩, ⟨2, {}⟩] } with sched := heldSchedule 2 2 };
      (s.group 3).purges = ⟨1, {}⟩ :: [⟨2, {}⟩] ∧ s.scheduleBusy = false) := by decide +kernel

/-- Groups in each state, with a lock outstanding, with nothing to trip on, and with a source at the active level. -/
theorem witness_GroupRequestsFollowTheirChecks :
    ∀ x ∈ [({} : Group), { sources := 0x800, channels := 1 }, { sources := 0x800, active := false, channels := 1 },
        { state := .armed, sources := 0x800, channels := 1 }, { state := .tripped, sources := 0x800, channels := 1 },
        { state := .tripped, sources := 0x800, channels := 1, locksOut := 1 }],
      (ask .tripConfig [3, 15, 255, 1, 255, 255] (coord.setGroup 3 x)).isCoordinator 0 = true ∧
      (ask .tripConfig [3, 15, 255, 1, 255, 255] (coord.setGroup 3 x)).handedRequest 0 .tripConfig =
        some ([3, 15, 255, 1, 255, 255], {}) ∧
      tripConfigArgs [3, 15, 255, 1, 255, 255] = some (3, 0xFFF, true, 0xFFFF) ∧ groupArg [3] = some 3 ∧
      ∀ k ∈ [ReqKind.arm, .disarm], (ask k [3] (coord.setGroup 3 x)).handedRequest 0 k = some ([3], {}) := by decide +kernel

/-! Ports. -/

/-- A reply to an IDENT. -/
def someReply : Reply := { kind := 3, seq := 1, code := .ok, payload := [1, 2] }

theorem witness_StatusByteShowsTheFlags :
    (base.port 0).csLow = false ∧ base.inReset = false ∧
    ∀ head ∈ [none, some someReply],
      let x : Transaction := { status := 0x90, head := head };
      let s := base.setPort 3 { openedPort with csLow := true, txn := some x };
      s.inReset = false ∧ (s.port 3).csLow = true ∧ (s.port 3).txn = some x := by decide +kernel

/-- A transaction that sends its head reply whole and one byte less, flushed and not, with a frame judged and not; none in progress with
the chip select low; and each outcome of a scan. -/
theorem witness_TransactionCarriesOneReply :
    (base.port 3).csLow = false ∧ base.inReset = false ∧ ({ base with inReset := true } : State).inReset = true ∧
    (∀ judged ∈ [true, false], ∀ flushed ∈ [true, false],
      let x : Transaction := { status := 0x90, head := some someReply, headFlushed := flushed, judged := judged };
      let s := base.setPort 3 { openedPort with replies := [someReply], csLow := true, txn := some x };
      (s.port 3).csLow = true ∧ (s.port 3).txn = some x ∧ x.judged = judged ∧ x.headFlushed = flushed) ∧
    (let s := base.setPort 3 { openedPort with csLow := true };
      (s.port 3).csLow = true ∧ (s.port 3).txn = none) ∧
    scanFrame (List.replicate 8 0) = .null ∧ scanFrame [3, 1, 0] = .short ∧ scanFrame [3, 1, 29] = .tooLong ∧
    scanFrame [3, 1, 0, 0xA8] = .whole ⟨3, 1, []⟩ true ∧ scanFrame [3, 1, 0, 0xA9] = .whole ⟨3, 1, []⟩ false ∧
    someReply.bytes.length + 1 = 8 := by decide +kernel

theorem witness_FrameBytesScanBack :
    (∀ n ∈ [0, 28], ∀ kind ∈ [(1 : Byte), 255], let f : Frame := ⟨kind, 255, List.replicate n 255⟩; f.kind ≠ 0 ∧ f.payload.length ≤ 28) ∧
    (0x57 : Byte) ≠ crc8 (Frame.head ⟨3, 1, []⟩) := by decide +kernel

/-- Frames complete with a right and a wrong check byte, a length of 29, and a NULL frame, at an empty queue, at 3 and at 4 frames, and
at a CLOSING port. -/
theorem witness_JudgedFrameIsAcceptedOrDiscarded :
    (∀ x ∈ [openedPort, { openedPort with requests := List.replicate 3 ⟨3, 1, []⟩ },
        { openedPort with requests := List.replicate 4 ⟨3, 1, []⟩ }, closingPort],
      let txn : Transaction := { status := 0x10, head := none };
      ((base.setPort 0 { x with csLow := true, txn := some txn }).port 0).txn = some txn ∧ txn.judged = false) ∧
    scanFrame [3, 1, 0, 0xA8] = .whole ⟨3, 1, []⟩ true ∧ scanFrame [3, 1, 0, 0xA9] = .whole ⟨3, 1, []⟩ false ∧
    scanFrame [3, 1, 29] = .tooLong ∧ scanFrame [0] = .null := by decide +kernel

/-- Frames of no kind, out of session, of a wrong length, and good ones, with 0 and with 3 replies in the queue. -/
theorem witness_EngineTakesHeadFrame :
    ∀ session ∈ [Session.idle, .opened],
      ∀ f ∈ [(⟨4, 1, []⟩ : Frame), ⟨3, 1, []⟩, ⟨3, 1, [0]⟩, ⟨1, 1, [0, 0, 64]⟩, ⟨0x41, 1, []⟩], ∀ n ∈ [0, 3],
        let s := base.setPort 0 { openedPort with session := session, requests := [f], replies := List.replicate n someReply };
        (s.port 0).requests = f :: [] ∧ (s.port 0).inHand = none ∧ (s.port 0).replies.length < 4 ∧
        (s.port 0).session ≠ .closing := by decide +kernel

theorem witness_AnswerIsPlaced :
    ∀ x ∈ [openedPort, { openedPort with session := .closing, cause := some .lapsed }],
      let s := base.setPort 0 { x with inHand := some ⟨⟨3, 1, []⟩, .answered okEmpty {}⟩ };
      (s.port 0).inHand = some ⟨⟨3, 1, []⟩, .answered okEmpty {}⟩ ∧
      ((s.port 0).session = .closing ∧ (s.port 0).cause = some .lapsed ∨
        ¬ ((s.port 0).session = .closing ∧ (s.port 0).cause = some .lapsed)) := by decide +kernel

/-- ATTACH with terms 63, 64 and 16,777,215; DETACH; and an OPEN port with term 64 at 64 and at 65 wall ticks of silence. -/
theorem witness_SessionsOpenAndClose :
    (∀ x ∈ [[(0 : Byte), 0, 63], [0, 0, 64], [255, 255, 255]],
      ∀ start ∈ [base, base.setPort 0 {}], (ask .attach x start).handedRequest 0 .attach = some (x, {})) ∧
    ((ask .detach [] base).handedRequest 0 .detach = some ([], {}) ∧ (ask .detach [] base).isOpen 0 = true) ∧
    (let s := withTime { wallTime := 64 } base;
      s.isOpen 0 = true ∧ (s.port 0).term = some 64 ∧ s.wallSince (s.port 0).lastActivity ≤ 64) ∧
    (∀ hand ∈ [none, some (⟨⟨3, 1, []⟩, .handed {}⟩ : InHand)],
      let s := withTime { wallTime := 65 } (base.setPort 0 { openedPort with inHand := hand });
      s.isOpen 0 = true ∧ (s.port 0).term = some 64 ∧ 64 + 1 ≤ s.wallSince (s.port 0).lastActivity ∧ (s.port 0).inHand = hand) ∧
    (0x03 : Byte) ≠ 0x02 := by decide +kernel

/-- A report that is not the last, the last after a lapse, and the last after a DETACH, each in the middle of a transaction. -/
theorem witness_LastReportEndsTheTeardown :
    ∀ b ∈ [PartBlock.schedule, .leases, .journal, .notices],
      ∀ x ∈ [(2, CloseCause.lapsed, none), (1, .lapsed, none), (1, .detach, some (⟨⟨2, 1, []⟩, .detaching⟩ : InHand))],
        let parts : Parts := ⟨.reported {}, .reported {}, .reported {}, .reported {}⟩;
        let txn : Transaction := { status := 0xA0, head := some someReply };
        let s := base.setPort 0 { closingPort with
          partsOut := x.1, cause := some x.2.1, inHand := x.2.2, parts := parts, replies := [someReply], csLow := true, txn := some txn };
        (s.port 0).parts.get b = .reported {} ∧ (s.port 0).partsOut = x.1 ∧ (s.port 0).cause = some x.2.1 ∧
        (s.port 0).inHand = x.2.2 ∧ (s.port 0).txn = some txn := by decide +kernel

theorem witness_TeardownPartsRemoveWhatThePortOwns :
    (let s := { base.setPort 1 closingPort with sched := nineDue };
      (s.port 1).parts.schedule = .handed {} ∧ s.scheduleBusy = false ∧ (s.port 1).parts.notices = .handed {}) ∧
    nineDue.Ok := ⟨by decide +kernel, nineDue_ok⟩

/-! Notices. -/

/-- Posts to a queue of 0, 14 and 15 notices, to one in which a NOTICES_LOST stands, to a port not OPEN and of another session. -/
theorem witness_PostsAreStoredCountedOrDiscarded :
    (∀ notices ∈ [[], List.replicate 14 someNotice, List.replicate 15 someNotice, [⟨.noticesLost, 0, 65535, 0⟩],
        List.replicate 15 someNotice ++ [⟨.noticesLost, 0, 1, 0⟩]],
      let s := { base.setQueue 1 { notices := notices } with posts := [somePost] };
      s.inReset = false ∧ s.nextPost 1 .schedule = some somePost ∧ s.postBlocked somePost = false ∧ s.isOpen 1 = true ∧
      somePost.session = (s.port 1).sessions ∧ (s.queue 1).notices = notices) ∧
    (∀ n ∈ List.replicate 15 someNotice, n.kind ≠ .noticesLost) ∧
    (∀ x ∈ [closingPort, { openedPort with sessions := 2 }],
      let s := { base.setPort 1 x with posts := [somePost] };
      s.nextPost 1 .schedule = some somePost ∧ s.postBlocked somePost = false ∧
      (s.isOpen 1 = false ∨ somePost.session ≠ (s.port 1).sessions)) := by decide +kernel

/-- A TRIPPED posted to P1, and then a DROPPED posted to it by the schedule, which has heard of the trip. -/
def chained : State :=
  let s := base.post .groups 1 ⟨.tripped, 3, 11, 0⟩
  (s.hear .schedule (s.clock .groups)).post .schedule 1 ⟨.dropped, 62, 2, 0⟩

theorem witness_PostsAreStoredCountedOrDiscarded_blocked :
    ∃ x y, chained.nextPost 1 .schedule = some x ∧ y ∈ chained.posts ∧ y.port = 1 ∧ y ≠ x ∧ y.inPast x.clk ∧
      ¬ x.inPast y.clk := by
  refine ⟨_, _, rfl, List.mem_cons_self .., rfl, ?_, ?_, ?_⟩
  · decide +kernel
  · unfold Post.inPast
    decide +kernel
  · unfold Post.inPast
    decide +kernel

/-- The events that post and hand over: a revocation, a lease-end purge, a trip, a lock, the last lock report, a trip purge, an
application in the middle of a tick and one that ends it with a mark, two ticks taken whole, and an offer stored, each with a post made. -/
theorem witness_PostsAreStoredCountedOrDiscarded_chain :
    (let s := withTime { wallTime := 5000 } (waiting (resOf 0) { holder := some 1, holdLimit := 5000, revokeDue := true });
      exec (.revocation (resOf 0)) s = .next (after (.revocation (resOf 0)) s) ∧ s.posts = [] ∧
      (after (.revocation (resOf 0)) s).posts.length = 1) ∧
    (let s := { base.setLease (resOf 0) (ending .revoke .purgeHanded) with sched := heldSchedule 2 2 };
      exec (.leaseEndPurge 0) s = .next (after (.leaseEndPurge 0) s) ∧ s.posts = [] ∧
      (s.lease (resOf 0)).ending = some ⟨.revoke, 0, .purgeHanded, {}⟩ ∧ (after (.leaseEndPurge 0) s).posts.length = 2) ∧
    (let s := { coord.setGroup 3 { state := .armed, sources := 0x800, channels := 1 } with
        lineMsgs := [{ group := 3, line := 11, level := true }] };
      exec (.groupLineChange 3 11) s = .next (after (.groupLineChange 3 11) s) ∧ s.posts = [] ∧ s.lockMsgs = [] ∧ s.offers = [] ∧
      (after (.groupLineChange 3 11) s).posts.length = 1 ∧ (after (.groupLineChange 3 11) s).offers.length = 1) ∧
    (let m : LockMsg := { group := 3, chan := 0, lock := true };
      let s : State := { base with lockMsgs := [m] };
      exec (.lock 0 3) s = .next (after (.lock 0 3) s) ∧ s.nextLockMsg 0 3 = some m ∧ m.lock = true) ∧
    (let s := base.setGroup 3 { state := .tripped, channels := 1, locksOut := 1, reports := [{}] };
      exec (.lockReport 3) s = .next (after (.lockReport 3) s) ∧ (s.group 3).reports = {} :: [] ∧ (s.group 3).locksOut = 1) ∧
    (let s := { base.setGroup 3 { state := .tripped, channels := 1, purges := [⟨1, {}⟩] } with sched := heldSchedule 2 2 };
      exec (.tripPurge 3) s = .next (after (.tripPurge 3) s) ∧ (s.group 3).purges = ⟨1, {}⟩ :: [] ∧ s.posts = [] ∧
      (after (.tripPurge 3) s).posts.length = 2) ∧
    (let s := applying { setEntry with notify := true } coord;
      exec .application s = .next (after .application s) ∧
      s.sched.work.bind Work.handed = some { setEntry with notify := true } ∧ s.posts = [] ∧
      (after .application s).posts.length = 1) ∧
    (let w : Work := ⟨5, 3, [], some { setEntry with notify := true }, {}, [(0, 7)], true⟩;
      let s : State := { coord with sched := { entries := [setEntry], counts := #v[1, 0, 0, 0], work := some w } };
      exec .application s = .next (after .application s) ∧ s.sched.work = some w ∧ s.posts = [] ∧ s.offers = [] ∧
      (after .application s).posts.length = 1 ∧ (after .application s).offers.length = 1) ∧
    (exec (.scheduleTick 8) twoMarks = .next (after (.scheduleTick 8) twoMarks) ∧ twoMarks.posts = [] ∧ twoMarks.offers = [] ∧
      (after (.scheduleTick 8) twoMarks).posts.length = 2 ∧ (after (.scheduleTick 8) twoMarks).offers.length = 2) ∧
    (let w : Work := ⟨5, 3, [{ setEntry with action := .mark, notify := true }], none, {}, [], true⟩;
      let s : State := { coord with sched := { entries := w.rest, counts := #v[1, 0, 0, 0], work := some w } };
      exec (.scheduleTick 8) s = .next (after (.scheduleTick 8) s) ∧ s.sched.work = some w ∧ w.reached = true ∧
      (after (.scheduleTick 8) s).sched.work = none) ∧
    (let s : State := { base with journal := ringOf 2 .keep, offers := [{ body := .mark 0 1 0 }] };
      exec (.journalOffer .schedule) s = .next (after (.journalOffer .schedule) s) ∧ s.posts = [] ∧
      (s.offers.find? fun x => x.body.source == .schedule) = some { body := .mark 0 1 0 } ∧
      (after (.journalOffer .schedule) s).posts.length = 1) := by
  refine ⟨⟨rfl, ?_⟩, ⟨rfl, ?_⟩, ⟨rfl, ?_⟩, ⟨rfl, ?_⟩, ⟨rfl, ?_⟩, ⟨rfl, ?_⟩, ⟨rfl, ?_⟩, ⟨rfl, ?_⟩, ⟨rfl, ?_⟩, ⟨rfl, ?_⟩,
    ⟨rfl, ?_⟩⟩ <;> decide +kernel

theorem witness_NoticesLeaveFromTheFront :
    ∀ x ∈ [(0 : Byte), 1, 4, 5], (ask .notices [x] base).handedRequest 0 .notices = some ([x], {}) ∧
      (fieldOf [x] 0 1 = 0 ∨ 4 < fieldOf [x] 0 1 ∨ (1 ≤ fieldOf [x] 0 1 ∧ fieldOf [x] 0 1 ≤ 4)) := by decide +kernel

/-! Reset. -/

theorem witness_ResetClearsEveryBlock :
    15 < 16 ∧ 16 ≤ 16 ∧ ({ base with inReset := true } : State).inReset = true ∧
    ({ base with inReset := true } : State).resetSeenLow = true := by decide

theorem witness_ResetValuesMeetInvariants : ∃ s, s = State.reset := ⟨_, rfl⟩

/-! Invariants: a state that meets each one and whose step answers a next state. -/

theorem witness_StepKeepsTimebase :
    let s := { withTime creepingTime base with pending := [.wallTick] };
    s.tb.Ok ∧ step s = .next (after .wallTick s) := ⟨creepingTime_ok, rfl⟩

theorem witness_StepKeepsSchedule :
    let s : State := { base with sched := { nineDue with tick := some ⟨5, 1, {}⟩ }, pending := [.scheduleTick 8] };
    s.sched.Ok ∧ step s = .next (after (.scheduleTick 8) s) :=
  ⟨⟨nineDue_ok.1, nineDue_ok.2, nineDue_ok.3, nineDue_ok.4, nineDue_ok.5, nineDue_ok.6, nineDue_ok.7, nineDue_ok.8, nineDue_ok.9,
    fun _ h => by cases h⟩, rfl⟩

/-- A LOCKED channel at its safe level, and a pulse in flight. -/
theorem channel_cases_ok :
    ({ level := true, safe := true, lockSet := 1 } : Channel).Ok ∧
    ({ level := true, wave := some ⟨40, 2, true, .pulse, false, true, 1, 7⟩ } : Channel).Ok ∧ ({} : Channel).Ok := by
  refine ⟨?_, ?_, ?_⟩ <;> constructor <;> simp

theorem witness_StepKeepsChannelsAndLines :
    (let s := { (base.setChan 0 { level := true, safe := true, lockSet := 1 }).setChan 5
        { level := true, wave := some ⟨40, 2, true, .pulse, false, true, 1, 7⟩ } with pending := [.pulseEnd 5] };
      (∀ c, (s.chan c).Ok) ∧ step s = .next (after (.pulseEnd 5) s)) ∧
    (let s := { base.setLine 11 fullLine with pending := [.lineSample 11 true] };
      (∀ i, (s.line i).Ok) ∧ step s = .next (after (.lineSample 11 true) s)) := by
  refine ⟨⟨fun c => ?_, rfl⟩, ⟨fun i => ?_, rfl⟩⟩
  · fin_cases c
    · exact channel_cases_ok.1
    all_goals first | exact channel_cases_ok.2.2 | exact channel_cases_ok.2.1
  · fin_cases i <;> constructor <;> decide

theorem witness_StepKeepsLeases :
    let s := { coord.setPort 0 openedPort with pending := [.holdLimitExpiry 0] };
    s.LeasesOk ∧ step s = .next (after (.holdLimitExpiry 0) s) :=
  ⟨⟨(coord_leasesOk 0 openedPort).each, (coord_leasesOk 0 openedPort).timeline⟩, rfl⟩

theorem witness_StepKeepsJournal :
    let s : State := { base with journal := ringOf 2 .keep, pending := [.journalOffer .schedule] };
    s.journal.Ok ∧ step s = .next (after (.journalOffer .schedule) s) := ⟨ringOf_two_ok _, rfl⟩

/-- G3 TRIPPED with the lock of C0 handed, and the others at reset. -/
theorem witness_StepKeepsGroups :
    let s := { tripping with pending := [.lock 0 3] };
    (∀ g, s.GroupOk g) ∧ step s = .next (after (.lock 0 3) s) :=
  ⟨fun g => ⟨(tripping_ok g).1, (tripping_ok g).2, (tripping_ok g).3, (tripping_ok g).4⟩, rfl⟩

theorem openedPort_ok : openedPort.Ok := by
  constructor <;> simp [openedPort, PortRec.slots, Parts.outstanding, Config.queueDepth, Config.minTerm, Config.max24]

theorem closingPort_ok : closingPort.Ok := by
  constructor <;>
    simp [closingPort, openedPort, PortRec.slots, Parts.outstanding, Config.queueDepth, Config.minTerm, Config.max24]

theorem witness_StepKeepsPorts :
    let s := { base.setPort 3 closingPort with pending := [.noticeTeardown 3] };
    (∀ p, (s.port p).Ok) ∧ step s = .next (after (.noticeTeardown 3) s) := by
  refine ⟨fun p => ?_, rfl⟩
  fin_cases p
  all_goals first | exact openedPort_ok | exact closingPort_ok

theorem emptyQueue_ok : ({} : NoticeQueue).Ok := by constructor <;> simp

/-- A full queue: 15 notices and the NOTICES_LOST. -/
theorem fullQueue_ok : ({ notices := List.replicate 15 someNotice ++ [⟨.noticesLost, 0, 65535, 0⟩] } : NoticeQueue).Ok := by
  constructor <;> decide

theorem witness_StepKeepsNotices :
    let s := { base.setQueue 1 { notices := List.replicate 15 someNotice ++ [⟨.noticesLost, 0, 65535, 0⟩] } with
      posts := [somePost], pending := [.noticePost 1 .schedule] };
    s.NoticesOk ∧ step s = .next (after (.noticePost 1 .schedule) s) := by
  refine ⟨⟨fun p => ?_, by decide⟩, rfl⟩
  fin_cases p
  all_goals first | exact emptyQueue_ok | exact fullQueue_ok

/-- P0 reads marks in KEEP mode at the tail, and a READ of one entry is taken. -/
theorem witness_KeepReaderLosesNoEntry :
    let s := { ask .read [1] base with journal := ringOf 2 .keep, pending := [.read 0] };
    let sub : Subscription := ⟨markKind, .keep, 0, false⟩;
    let e : JournalEntry := ⟨0, .mark 0 1 0 0⟩;
    s.journal.Ok ∧ step s = .next (after (.read 0) s) ∧ s.sub 0 = some sub ∧ sub.mode = .keep ∧ s.journal.ring[0]? = some e ∧
      s.journal.position sub.cursor ≤ 0 ∧ e.hits sub.mask = true :=
  ⟨ringOf_two_ok _, rfl, by decide +kernel, by decide, by decide +kernel, by decide +kernel, by decide⟩

end Sys2Proof.Tests
end

section
/-! PROOFS. Applications at the Output Channels: when one is refused, what APPLICATION does with the answer, and the GROUP_SET of R58. -/

namespace Sys2Proof.Machine

/-! ### When an application is refused (R53) -/

theorem chanLocked_iff {s : State} {c : Chan} : s.chanLocked c = true ↔ (s.chan c).lockSet ≠ 0 := by
  simp [State.chanLocked]

theorem namesChan_of_groupSet {e : Entry} {mask values : ChanSet} (ha : e.action = .groupSet mask values) (c : Chan) :
    e.namesChan c = mask.getLsbD c.val := by
  simp [Entry.namesChan, ha, Action.names]

theorem any_chanLocked_iff {s : State} {e : Entry} :
    (chansOf e.action.names).any s.chanLocked = true ↔ ∃ c, e.namesChan c = true ∧ (s.chan c).lockSet ≠ 0 := by
  simp only [List.any_eq_true, mem_chansOf, chanLocked_iff, Entry.namesChan]

theorem any_notLeased_iff {s : State} {e : Entry} :
    (chansOf e.action.names).any (fun c => s.chanHolder c != some e.owner) = true ↔
      ∃ c, e.namesChan c = true ∧ s.chanHolder c ≠ some e.owner := by
  simp only [List.any_eq_true, mem_chansOf, bne_iff_ne, Entry.namesChan]

@[simp] theorem State.hear_applicationRefusal (s : State) (a : Agent) (k : Clock) (e : Entry) :
    (s.hear a k).applicationRefusal e = s.applicationRefusal e := rfl

/-- A locked channel refuses with TRIP, whoever holds the leases. -/
theorem applicationRefusal_of_locked {s : State} {e : Entry} (h : ∃ c, e.namesChan c = true ∧ (s.chan c).lockSet ≠ 0) :
    s.applicationRefusal e = some .trip := by
  rw [State.applicationRefusal, if_pos (any_chanLocked_iff.2 h)]

theorem applicationRefusal_of_unlocked {s : State} {e : Entry} (h : ∀ c, e.namesChan c = true → (s.chan c).lockSet = 0) :
    s.applicationRefusal e = if ∃ c, e.namesChan c = true ∧ s.chanHolder c ≠ some e.owner then some .lease else none := by
  have free : ¬ ∃ c, e.namesChan c = true ∧ (s.chan c).lockSet ≠ 0 := fun ⟨c, hc, hl⟩ => hl (h c hc)
  rw [State.applicationRefusal, if_neg (mt any_chanLocked_iff.1 free)]
  simp only [any_notLeased_iff]

theorem applicationRefusal_of_notLeased {s : State} {e : Entry} (h : ∀ c, e.namesChan c = true → (s.chan c).lockSet = 0)
    (hl : ∃ c, e.namesChan c = true ∧ s.chanHolder c ≠ some e.owner) : s.applicationRefusal e = some .lease := by
  rw [applicationRefusal_of_unlocked h, if_pos hl]

theorem applicationRefusal_of_leased {s : State} {e : Entry}
    (h : ∀ c, e.namesChan c = true → (s.chan c).lockSet = 0 ∧ s.chanHolder c = some e.owner) :
    s.applicationRefusal e = none := by
  rw [applicationRefusal_of_unlocked fun c hc => (h c hc).1]
  exact if_neg fun ⟨c, hc, hl⟩ => hl (h c hc).2

/-! ### The outcome of an entry (R36) -/

theorem posted_postOutcome (s : State) (e : Entry) (n : Option Notice) :
    s.Posted (s.postOutcome e n) (n.toList.map fun n => (.schedule, e.owner, n)) := by
  cases n with
  | none => exact .nil rfl
  | some n => exact posted_post s .schedule e.owner n

theorem firedNotice_posts (t : Nat) (e : Entry) :
    ((firedNotice t e).toList.map fun n => (PostBlock.schedule, e.owner, n)) = firedPosts t e := by
  by_cases late : t ≤ e.due
  · cases hn : e.notify <;> simp [firedNotice, firedPosts, hn, late, Nat.sub_eq_zero_of_le late]
  · have hd : t - e.due ≠ 0 := by omega
    simp [firedNotice, firedPosts, lateness, cap24, Config.max24, late, hd]

/-! ### What APPLICATION makes of the channels' answer -/

theorem exec_application (s : State) : exec .application s = .next (applicationEvent s) := rfl

theorem applicationEvent_eq (s : State) :
    applicationEvent s = { s with
      sched := (applicationEvent s).sched, chans := (applicationEvent s).chans, clocks := (applicationEvent s).clocks,
      posts := (applicationEvent s).posts, offers := (applicationEvent s).offers } := by
  apply State.eq_of_fields <;> simp

/-- The channels are as they answered, and the schedule posts the outcome of that answer. -/
theorem applicationEvent_of_handed {s : State} {w : Work} {e : Entry} (hw : s.sched.work = some w) (he : w.handed = some e) :
    (applicationEvent s).chans = (takeApplication w e s).1.chans ∧
      (takeApplication w e s).1.Posted (applicationEvent s)
        ((answeredNotice w.time e (takeApplication w e s).2).toList.map fun n => (.schedule, e.owner, n)) := by
  have outcome := posted_postOutcome
    ((takeApplication w e s).1.hear .schedule ((takeApplication w e s).1.clock .channels)) e
    (answeredNotice w.time e (takeApplication w e s).2)
  simp only [applicationEvent, hw, he]
  exact ⟨by simp, outcome.congr rfl (fun _ => rfl) (by simp)⟩

/-- A refused application changes no channel, and DROPPED carries the reason (R34). -/
theorem applicationEvent_of_refused {s : State} {w : Work} {e : Entry} {why : DropReason} (hw : s.sched.work = some w)
    (he : w.handed = some e) (hr : s.applicationRefusal e = some why) :
    (applicationEvent s).chans = s.chans ∧
      s.Posted (applicationEvent s) [(.schedule, e.owner, ⟨.dropped, e.tag, why.code, w.time⟩)] := by
  have taken : takeApplication w e s = (s.hear .channels w.clk, some why) := by simp [takeApplication, hr]
  obtain ⟨hc, hp⟩ := applicationEvent_of_handed hw he
  rw [taken] at hc hp
  exact ⟨hc, hp.congr rfl (fun _ => rfl) rfl⟩

/-- An application that passes the check leaves the channels as the action does, and its posts come before the entry's outcome. -/
theorem applicationEvent_of_passed {s : State} {w : Work} {e : Entry} {posts : List (PostBlock × Port × Notice)}
    (hw : s.sched.work = some w) (he : w.handed = some e) (hr : s.applicationRefusal e = none)
    (hp : (s.hear .channels w.clk).Posted (applyAction e w.ordinal (s.hear .channels w.clk)) posts) :
    (∀ c, (applicationEvent s).chan c = (applyAction e w.ordinal (s.hear .channels w.clk)).chan c) ∧
      s.Posted (applicationEvent s) (posts ++ firedPosts w.time e) := by
  have taken : takeApplication w e s = (applyAction e w.ordinal (s.hear .channels w.clk), none) := by
    simp [takeApplication, hr]
  obtain ⟨hc, ho⟩ := applicationEvent_of_handed hw he
  rw [taken] at hc ho
  rw [answeredNotice, firedNotice_posts] at ho
  have hs : s.Posted (applyAction e w.ordinal (s.hear .channels w.clk)) posts := hp.congr rfl (fun _ => rfl) rfl
  exact ⟨fun c => congrArg (·[c]) hc, hs.trans (fun p => by simp [State.port]) ho⟩

/-! ### A SET applied (R54, R55) -/

@[simp] theorem State.postSuperseded_chan (s : State) (c : Chan) (tag : Nat) (d : Chan) :
    (s.postSuperseded c tag).chan d = s.chan d := by
  simp [State.chan]

theorem posted_postSuperseded (s : State) (c : Chan) (tag : Nat) :
    s.Posted (s.postSuperseded c tag) (supersededPosts (s.chan c) tag s.tb.machTime) := by
  cases hw : (s.chan c).wave with
  | none =>
    simp only [State.postSuperseded, supersededPosts, hw]
    exact .nil rfl
  | some w =>
    simp only [State.postSuperseded, supersededPosts, hw]
    exact posted_post s .channels w.owner _

theorem chan_applySet (s : State) (c : Chan) (level : Level) (tag : Nat) (d : Chan) :
    (applySet c level tag s).chan d = if c = d then { s.chan c with level := level, wave := none } else s.chan d := by
  simp [applySet, State.chan_setChan]

theorem posted_applySet (s : State) (c : Chan) (level : Level) (tag : Nat) :
    s.Posted (applySet c level tag s) (supersededPosts (s.chan c) tag s.tb.machTime) :=
  (posted_postSuperseded s c tag).congr rfl (fun _ => rfl) rfl

/-! ### A GROUP_SET applied (R58) -/

theorem applyGroupSet_cons (values : ChanSet) (tag : Nat) (c : Chan) (cs : List Chan) (s : State) :
    applyGroupSet values tag (c :: cs) s = applyGroupSet values tag cs (applySet c (values.getLsbD c.val) tag s) := rfl

theorem chan_applyGroupSet (s : State) (values : ChanSet) (tag : Nat) (cs : List Chan) (d : Chan) :
    (applyGroupSet values tag cs s).chan d =
      if d ∈ cs then { s.chan d with level := values.getLsbD d.val, wave := none } else s.chan d := by
  induction cs generalizing s with
  | nil => rfl
  | cons c cs ih =>
    rw [applyGroupSet_cons, ih, chan_applySet]
    by_cases hcd : c = d
    · subst hcd
      simp
    · simp [hcd, Ne.symm hcd]

/-- Each channel of the list posts for the waveform that it had before the application: no channel of it comes twice. -/
theorem posted_applyGroupSet (s : State) (values : ChanSet) (tag : Nat) {cs : List Chan} (hcs : cs.Nodup) :
    s.Posted (applyGroupSet values tag cs s) (cs.flatMap fun c => supersededPosts (s.chan c) tag s.tb.machTime) := by
  induction cs generalizing s with
  | nil => exact .nil rfl
  | cons c cs ih =>
    obtain ⟨hc, hcs⟩ := List.nodup_cons.1 hcs
    have others : ∀ d ∈ cs, supersededPosts ((applySet c (values.getLsbD c.val) tag s).chan d) tag
        (applySet c (values.getLsbD c.val) tag s).tb.machTime = supersededPosts (s.chan d) tag s.tb.machTime := by
      intro d hd
      have hcd : c ≠ d := fun h => hc (h ▸ hd)
      simp [chan_applySet, hcd]
    have rest := ih (applySet c (values.getLsbD c.val) tag s) hcs
    rw [List.flatMap_congr others] at rest
    exact (posted_applySet s c (values.getLsbD c.val) tag).trans (fun p => by simp [State.port]) rest

theorem applyAction_of_groupSet {e : Entry} {mask values : ChanSet} (ha : e.action = .groupSet mask values) (ordinal : Nat)
    (s : State) : applyAction e ordinal s = applyGroupSet values e.tag (chansOf mask) s := by
  simp [applyAction, ha]

theorem nodup_chansOf (cs : ChanSet) : (chansOf cs).Nodup := (List.nodup_finRange 16).filter _

/-- Settles O20: the check of R53 decides between the two refusals and the application, which runs over the masked channels in
ascending order. -/
theorem groupSetSetsEveryMaskedChannel : Obligations.GroupSetSetsEveryMaskedChannel := by
  intro s w e mask values hw he ha
  simp only [← namesChan_of_groupSet ha]
  refine ⟨fun granted => ?_, fun locked => ?_, fun unlocked notLeased => ?_⟩
  · have supersedes := posted_applyGroupSet (s.hear .channels w.clk) values e.tag (nodup_chansOf mask)
    rw [← applyAction_of_groupSet ha w.ordinal] at supersedes
    obtain ⟨hchan, hposted⟩ := applicationEvent_of_passed hw he (applicationRefusal_of_leased granted) supersedes
    refine ⟨applicationEvent s, exec_application s, applicationEvent_eq s, fun c => ?_, ?_⟩
    · rw [hchan, applyAction_of_groupSet ha, chan_applyGroupSet]
      simp [mem_chansOf, namesChan_of_groupSet ha]
    · simpa [chansOf, namesChan_of_groupSet ha] using hposted
  · exact ⟨_, exec_application s, applicationEvent_of_refused hw he (applicationRefusal_of_locked locked)⟩
  · exact ⟨_, exec_application s, applicationEvent_of_refused hw he (applicationRefusal_of_notLeased unlocked notLeased)⟩

end Sys2Proof.Machine
end

section
/-! PROOFS. Sampling of the Input Lines: what one sample leaves in the line's record and hands on, and the qualification of R98. -/

namespace Sys2Proof.Machine

/-! ### Whether a sample completes a run (R98) -/

theorem Line.completes_iff {x : Line} {level : Level} :
    x.completes level = true ↔ level ≠ x.qualified ∧ (x.q = 0 ∨ x.q * 16 ≤ x.stable + 1) := by
  simp [Line.completes, ne_comm]

/-- Below the q x 16-th sample of a run, q is not 0. -/
theorem Line.completes_eq_false_of_short {x : Line} {level : Level} (h : x.stable + 1 < x.q * 16) :
    x.completes level = false := by
  have short : ¬ (x.q = 0 ∨ x.q * 16 ≤ x.stable + 1) := by omega
  exact eq_false_of_ne_true fun hc => short (Line.completes_iff.1 hc).2

@[simp] theorem Line.completes_qualified (x : Line) : x.completes x.qualified = false := by
  simp [Line.completes]

theorem Line.sampled_of_eq {x : Line} {level : Level} (h : level = x.qualified) :
    x.sampled level = { x with raw := level, sampleDue := false, stable := 0 } := by
  simp [Line.sampled, h]

theorem Line.sampled_of_ne {x : Line} {level : Level} (h : level ≠ x.qualified) :
    x.sampled level = { x with raw := level, sampleDue := false, stable := x.stable + 1 } := by
  simp [Line.sampled, h.symm]

/-! ### A qualified change (R99 to R102) -/

theorem line_qualifyLine (s : State) (i j : LineId) (level : Level) :
    (qualifyLine i level s).line j = if i = j then (s.line i).qualify level else s.line j :=
  State.line_setLine s i j _

theorem lineMsgs_qualifyLine (s : State) (i : LineId) (level : Level) :
    (qualifyLine i level s).lineMsgs = s.lineMsgs ++
      (List.finRange 4).map fun g => { group := g, line := i, level := level, clk := s.clock .lines } := rfl

theorem offers_qualifyLine (s : State) (i : LineId) (level : Level) :
    (qualifyLine i level s).offers =
      if (s.line i).offersEdge level then s.offers ++ [{ body := .edge i level, clk := s.clock .lines }] else s.offers := rfl

/-- The decimation count and the offers follow the edge mode and the count (R100, R101). -/
theorem decim_offers_qualifyLine (s : State) (i : LineId) (level : Level) :
    let x := s.line i
    let t := qualifyLine i level s
    if x.mode.counts level then
      if x.decim + 1 < 2 ^ x.d then (t.line i).decim = x.decim + 1 ∧ t.offers = s.offers
      else (t.line i).decim = 0 ∧ ∃ o : Offer, o.body = .edge i level ∧ t.offers = s.offers ++ [o]
    else (t.line i).decim = x.decim ∧ t.offers = s.offers := by
  dsimp only
  rw [line_qualifyLine, if_pos rfl, offers_qualifyLine]
  split
  · next counted =>
    split
    · next short => simp [Line.qualify, Line.offersEdge, counted, Nat.not_le.2 short]
    · next full => simp [Line.qualify, Line.offersEdge, counted, Nat.not_lt.1 full]
  · next uncounted => simp [Line.qualify, Line.offersEdge, uncounted]

theorem qualifiesLine_qualifyLine (s : State) (i : LineId) (level : Level) :
    s.QualifiesLine (qualifyLine i level s) i level := by
  refine ⟨?_, ?_, ?_⟩
  · simp [line_qualifyLine, Line.qualify]
  · rw [lineMsgs_qualifyLine, List.map_append]
    rfl
  · have counted := decim_offers_qualifyLine s i level
    cases hm : (s.line i).mode <;> simpa only [hm, EdgeMode.counts] using counted

/-! ### One sample (R97, R98) -/

theorem sampleLine_of_completes {s : State} {i : LineId} {level : Level} (h : (s.line i).completes level = true) :
    sampleLine i level s = qualifyLine i level s := by
  simp [sampleLine, h]

theorem sampleLine_of_not_completes {s : State} {i : LineId} {level : Level} (h : (s.line i).completes level = false) :
    sampleLine i level s = s.setLine i ((s.line i).sampled level) := by
  simp [sampleLine, h]

/-- A sample equal to the qualified level ends a run. -/
theorem sampleLine_of_eq {s : State} {i : LineId} {level : Level} (h : level = (s.line i).qualified) :
    sampleLine i level s = s.setLine i { s.line i with raw := level, sampleDue := false, stable := 0 } := by
  rw [sampleLine_of_not_completes (h ▸ Line.completes_qualified _), Line.sampled_of_eq h]

/-- A different sample before the q x 16-th is counted. -/
theorem sampleLine_of_short {s : State} {i : LineId} {level : Level} (hd : level ≠ (s.line i).qualified)
    (h : (s.line i).stable + 1 < (s.line i).q * 16) :
    sampleLine i level s =
      s.setLine i { s.line i with raw := level, sampleDue := false, stable := (s.line i).stable + 1 } := by
  rw [sampleLine_of_not_completes (Line.completes_eq_false_of_short h), Line.sampled_of_ne hd]

/-- A different sample completes the run when q is 0, and else when it is the q x 16-th. -/
theorem sampleLine_qualifies {s : State} {i : LineId} {level : Level} (hd : level ≠ (s.line i).qualified)
    (h : (s.line i).q = 0 ∨ (s.line i).q * 16 ≤ (s.line i).stable + 1) :
    sampleLine i level s = qualifyLine i level s :=
  sampleLine_of_completes (Line.completes_iff.2 ⟨hd, h⟩)

theorem line_sampleLine_ne {s : State} {i j : LineId} {level : Level} (h : j ≠ i) :
    (sampleLine i level s).line j = s.line j := by
  cases hc : (s.line i).completes level with
  | true => rw [sampleLine_of_completes hc, line_qualifyLine, if_neg h.symm]
  | false => rw [sampleLine_of_not_completes hc, State.line_setLine_ne _ _ _ _ h.symm]

/-- Whatever the sample does to the levels and counts, the raw sample is the pin's level and the configuration stays. -/
theorem line_sampleLine_self (s : State) (i : LineId) (level : Level) :
    ((sampleLine i level s).line i).raw = level ∧ ((sampleLine i level s).line i).mode = (s.line i).mode ∧
    ((sampleLine i level s).line i).q = (s.line i).q ∧ ((sampleLine i level s).line i).d = (s.line i).d := by
  cases hc : (s.line i).completes level with
  | true => simp [sampleLine_of_completes hc, line_qualifyLine, Line.qualify]
  | false => simp [sampleLine_of_not_completes hc, Line.sampled]

theorem sampleLine_eq (s : State) (i : LineId) (level : Level) :
    sampleLine i level s = { s with
      lines := (sampleLine i level s).lines, lineMsgs := (sampleLine i level s).lineMsgs,
      offers := (sampleLine i level s).offers } := by
  apply State.eq_of_fields <;> simp

theorem exec_lineSample {s : State} (h : s.inReset = false) (i : LineId) (level : Level) :
    exec (.lineSample i level) s = .next (sampleLine i level s) := by
  change Host.Outcome.next (lineSampleEvent i level s) = _
  rw [lineSampleEvent, h, if_neg Bool.false_ne_true]

/-! ### A run of samples (R98) -/

theorem repeat_sampleLine_succ (i : LineId) (level : Level) (n : Nat) (s : State) :
    Nat.repeat (sampleLine i level) (n + 1) s = sampleLine i level (Nat.repeat (sampleLine i level) n s) := rfl

/-- Short of q x 16, the samples of a run are counted and nothing else of the qualification moves. -/
theorem repeat_sampleLine_of_short {s : State} {i : LineId} {level : Level} (hd : level ≠ (s.line i).qualified) {n : Nat}
    (h : (s.line i).stable + n < (s.line i).q * 16) :
    ((Nat.repeat (sampleLine i level) n s).line i).qualified = (s.line i).qualified ∧
    ((Nat.repeat (sampleLine i level) n s).line i).q = (s.line i).q ∧
    ((Nat.repeat (sampleLine i level) n s).line i).stable = (s.line i).stable + n := by
  induction n with
  | zero => exact ⟨rfl, rfl, rfl⟩
  | succ n ih =>
    obtain ⟨hqual, hq, hstable⟩ := ih (by omega)
    rw [repeat_sampleLine_succ, sampleLine_of_short (by rwa [hqual]) (by rw [hq, hstable]; omega)]
    simp [hqual, hq, hstable, Nat.add_assoc]

/-- The sample that makes the run q x 16 long changes the qualified level. -/
theorem repeat_sampleLine_of_full {s : State} {i : LineId} {level : Level} (hd : level ≠ (s.line i).qualified) {n : Nat}
    (h : (s.line i).stable + n + 1 = (s.line i).q * 16) :
    ((Nat.repeat (sampleLine i level) (n + 1) s).line i).qualified = level := by
  obtain ⟨hqual, hq, hstable⟩ := repeat_sampleLine_of_short hd (n := n) (by omega)
  rw [repeat_sampleLine_succ, sampleLine_qualifies (by rwa [hqual]) (.inr (by rw [hq, hstable]; omega)), line_qualifyLine,
    if_pos rfl]
  rfl

/-- Settles O30: the comparison of R98 decides each sample, and a run counts up to the sample that completes it. -/
theorem samplesQualifyTheLine : Obligations.SamplesQualifyTheLine := by
  refine ⟨fun s i level hr => ?_, fun s i hq hs => ?_⟩
  · obtain ⟨hraw, hmode, hq, hdec⟩ := line_sampleLine_self s i level
    refine ⟨sampleLine i level s, exec_lineSample hr i level, hraw, sampleLine_eq s i level,
      fun j hj => line_sampleLine_ne hj, hmode, hq, hdec, fun heq => ?_, fun hd h0 => ?_, fun hd _ short => ?_,
      fun hd _ full => ?_⟩
    · rw [sampleLine_of_eq heq]
      simp [heq]
    · exact sampleLine_qualifies hd (.inl h0) ▸ qualifiesLine_qualifyLine s i level
    · simp [sampleLine_of_short hd short]
    · exact sampleLine_qualifies hd (.inr full) ▸ qualifiesLine_qualifyLine s i level
  · have hd : (!(s.line i).qualified) ≠ (s.line i).qualified := Bool.not_ne_self _
    refine ⟨fun n hn => ?_, ?_⟩
    · obtain ⟨hqual, -, hstable⟩ := repeat_sampleLine_of_short hd (n := n) (by omega)
      exact ⟨hqual, by omega⟩
    · obtain ⟨n, hn⟩ := Nat.exists_eq_add_one.2 (show 0 < (s.line i).q * 16 by omega)
      rw [hn]
      exact repeat_sampleLine_of_full hd (by omega)

end Sys2Proof.Machine
end

section
/-! PROOFS. The format of a reply frame: where its reply code stands. -/

namespace Sys2Proof.Machine

/-- Whatever its kind, sequence number and payload, a reply frame holds the number of its reply code at byte 2 (R191). -/
theorem Reply.bytes_getElem?_two (r : Reply) : r.bytes[2]? = some r.code.byte := rfl

/-- Settles O47: byte 2 of a reply frame is the number of its code, and the numbers are those of R191's table. -/
theorem replyCarriesItsCode : Obligations.ReplyCarriesItsCode := by
  intro kind seq payload
  have byteTwo (code : ReplyCode) : (Reply.bytes ⟨kind, seq, code, payload⟩)[2]? = some code.byte :=
    Reply.bytes_getElem?_two _
  rw [funext byteTwo]
  simp only [List.map_cons, List.map_nil, ReplyCode.byte]

end Sys2Proof.Machine
end

section
/-! PROOFS. Steps: what a step runs, how a property passes through a step and through a request, and the reset state. -/

namespace Sys2Proof.Machine

/-! ### One step -/

/-- A step runs a command, on the state with the queue of commands moved on or on the state itself, or lets a TCLK period pass. -/
theorem step_cases {s t : State} (h : step s = .next t) :
    (∃ i l, exec i { s with pending := l } = .next t) ∨ t = clockPeriod s := by
  unfold step at h
  split at h
  · unfold idle at h
    split at h
    · exact .inl ⟨_, s.pending, h⟩
    · exact .inr (Host.Outcome.next.inj h).symm
  · exact .inl ⟨_, _, h⟩

/-- A property that every command and every TCLK period keeps, and that does not look at the queue of commands, is kept by every step. -/
theorem step_induct {P : State → Prop} (queue : ∀ s l, P s → P { s with pending := l })
    (period : ∀ s, P s → P (clockPeriod s)) (command : ∀ i s t, exec i s = .next t → P s → P t)
    {s t : State} (hs : P s) (h : step s = .next t) : P t := by
  rcases step_cases h with ⟨i, l, h⟩ | rfl
  · exact command _ _ _ h (queue s l hs)
  · exact period s hs

/-! ### Requests -/

theorem takeRequest_cases (k : ReqKind) (agent : Agent) (p : Port) (body : List Byte → State → State × Answer) (s : State) :
    takeRequest k agent p body s = s ∨ ∃ payload clk, s.handedRequest p k = some (payload, clk) ∧
      takeRequest k agent p body s = (body payload (s.hear agent clk)).1.answer p (body payload (s.hear agent clk)).2
        ((body payload (s.hear agent clk)).1.clock agent) := by
  cases h : s.handedRequest p k with
  | none => exact .inl (takeRequest_of_none h)
  | some x => exact .inr ⟨x.1, x.2, rfl, takeRequest_of_some h⟩

/-- A block's taking of a request keeps what the answer, the hearing and the block's body keep. -/
theorem takeRequest_induct {P : State → Prop} {k : ReqKind} {agent : Agent} {p : Port}
    {body : List Byte → State → State × Answer} {s : State} (answer : ∀ s a clk, P s → P (s.answer p a clk))
    (hear : ∀ s clk, P s → P (s.hear agent clk)) (done : ∀ payload s, P s → P (body payload s).1) (hs : P s) :
    P (takeRequest k agent p body s) := by
  rcases takeRequest_cases k agent p body s with h | ⟨payload, clk, -, h⟩ <;> rw [h]
  · exact hs
  · exact answer _ _ _ (done _ _ (hear _ _ hs))

/-- What neither the answer nor the hearing nor the block's body changes, the request leaves as it was. -/
theorem takeRequest_keeps {α : Type} (f : State → α) {k : ReqKind} {agent : Agent} {p : Port}
    {body : List Byte → State → State × Answer} {s : State} (answer : ∀ s a clk, f (s.answer p a clk) = f s)
    (hear : ∀ s clk, f (s.hear agent clk) = f s) (done : ∀ payload s, f (body payload s).1 = f s) :
    f (takeRequest k agent p body s) = f s :=
  takeRequest_induct (P := fun t => f t = f s) (fun t a clk h => (answer t a clk).trans h)
    (fun t clk h => (hear t clk).trans h) (fun x t h => (done x t).trans h) rfl

section
variable {k : ReqKind} {agent : Agent} {p : Port} {body : List Byte → State → State × Answer} {s : State}

@[simp] theorem takeRequest_tb (h : ∀ x s, (body x s).1.tb = s.tb) : (takeRequest k agent p body s).tb = s.tb :=
  takeRequest_keeps State.tb (by simp) (by simp) h

@[simp] theorem takeRequest_sched (h : ∀ x s, (body x s).1.sched = s.sched) : (takeRequest k agent p body s).sched = s.sched :=
  takeRequest_keeps State.sched (by simp) (by simp) h

@[simp] theorem takeRequest_chans (h : ∀ x s, (body x s).1.chans = s.chans) : (takeRequest k agent p body s).chans = s.chans :=
  takeRequest_keeps State.chans (by simp) (by simp) h

@[simp] theorem takeRequest_leases (h : ∀ x s, (body x s).1.leases = s.leases) :
    (takeRequest k agent p body s).leases = s.leases :=
  takeRequest_keeps State.leases (by simp) (by simp) h

@[simp] theorem takeRequest_lines (h : ∀ x s, (body x s).1.lines = s.lines) : (takeRequest k agent p body s).lines = s.lines :=
  takeRequest_keeps State.lines (by simp) (by simp) h

@[simp] theorem takeRequest_journal (h : ∀ x s, (body x s).1.journal = s.journal) :
    (takeRequest k agent p body s).journal = s.journal :=
  takeRequest_keeps State.journal (by simp) (by simp) h

@[simp] theorem takeRequest_groups (h : ∀ x s, (body x s).1.groups = s.groups) :
    (takeRequest k agent p body s).groups = s.groups :=
  takeRequest_keeps State.groups (by simp) (by simp) h

@[simp] theorem takeRequest_queues (h : ∀ x s, (body x s).1.queues = s.queues) :
    (takeRequest k agent p body s).queues = s.queues :=
  takeRequest_keeps State.queues (by simp) (by simp) h

@[simp] theorem takeRequest_posts (h : ∀ x s, (body x s).1.posts = s.posts) : (takeRequest k agent p body s).posts = s.posts :=
  takeRequest_keeps State.posts (by simp) (by simp) h

@[simp] theorem takeRequest_lockMsgs (h : ∀ x s, (body x s).1.lockMsgs = s.lockMsgs) :
    (takeRequest k agent p body s).lockMsgs = s.lockMsgs :=
  takeRequest_keeps State.lockMsgs (by simp) (by simp) h

end

/-- A request to the schedule waits in the middle of a tick, and else is taken. -/
theorem takeScheduleRequest_cases {P : State → Prop} {k : ReqKind} {p : Port} {body : List Byte → State → State × Answer}
    {s : State} (waits : P s) (taken : s.scheduleBusy = false → P (takeRequest k .schedule p body s)) :
    P (takeScheduleRequest k p body s) := by
  unfold takeScheduleRequest
  split
  · exact waits
  · next h => exact taken (by simpa using h)

/-! ### The reset state (R18) -/

theorem resetRelease_eq (pins : LineSet) (s : State) : resetReleaseEvent pins s = s ∨
    resetReleaseEvent pins s =
      { s.cleared false true with lines := Vector.ofFn fun i => Line.atRelease (pins.getLsbD i.val) } := by
  unfold resetReleaseEvent
  split
  · exact .inr rfl
  · exact .inl rfl

theorem resetEntry_eq (n : Nat) (s : State) : resetEntryEvent n s = s ∨ resetEntryEvent n s = s.cleared true true := by
  unfold resetEntryEvent
  split
  · exact .inl rfl
  · exact .inr rfl

end Sys2Proof.Machine
end

section
/-! PROOFS. The Timebase: what each of its events leaves in its ranges and paces. -/

namespace Sys2Proof.Machine

/-! ### Fields as numbers -/

theorem numberOf_lt_aux (l : List Byte) (n : Nat) :
    l.foldl (fun n b => n * 256 + b.toNat) n < (n + 1) * 256 ^ l.length := by
  induction l generalizing n with
  | nil => simp
  | cons b l ih =>
    have hb : b.toNat < 256 := b.isLt
    calc l.foldl (fun n b => n * 256 + b.toNat) (n * 256 + b.toNat)
        < (n * 256 + b.toNat + 1) * 256 ^ l.length := ih _
      _ ≤ ((n + 1) * 256) * 256 ^ l.length := Nat.mul_le_mul_right _ (by omega)
      _ = (n + 1) * 256 ^ (b :: l).length := by rw [List.length_cons, Nat.pow_succ]; ring

theorem numberOf_lt (l : List Byte) : numberOf l < 256 ^ l.length := by
  simpa [numberOf] using numberOf_lt_aux l 0

/-- A field of `len` bytes is a number below 256 ^ len. -/
theorem fieldOf_lt (payload : List Byte) (place len : Nat) : fieldOf payload place len < 256 ^ len :=
  (numberOf_lt _).trans_le (Nat.pow_le_pow_right (by norm_num) (by simp))

/-! ### The ranges and what goes with each pace -/

namespace Timebase.Ok

variable {tb : Timebase}

theorem toHold (h : tb.Ok) : tb.toHold.Ok where
  __ := h
  machPrescale := h.tdiv.1
  stopped _ := ⟨rfl, rfl⟩
  steps := rfl
  holding := nofun
  holdCount := Nat.zero_le _
  countsDown _ := ⟨rfl, rfl⟩
  boundary := nofun
  timeEnd _ := .inr rfl

/-- A running mode begins away from the end of time, with the pending steps and the creep factor that go with it. -/
theorem toRunning (h : tb.Ok) {mode : PaceMode} (hm : mode ≠ .hold) (ht : tb.machTime ≠ Config.lastMachTime) {steps factor : Nat}
    (hs : if mode = .step then 1 ≤ steps ∧ steps ≤ Config.maxSteps else steps = 0) (hf : 2 ≤ factor ∧ factor ≤ 16) :
    { tb.toRunning mode with pendingSteps := steps, factor := factor }.Ok where
  __ := h
  factor := hf
  machPrescale := by
    have := h.machPrescale
    have := h.tdiv
    simp only [Timebase.toRunning]
    split <;> omega
  stopped := by cases mode <;> simp [Timebase.running, Timebase.toRunning] at hm ⊢
  steps := hs
  holding := nofun
  holdCount := Nat.zero_le _
  countsDown _ := ⟨rfl, rfl⟩
  boundary := nofun
  timeEnd e := absurd e ht

/-- Every answer of the table of PACE keeps the ranges, when a CREEP asks for a factor in range. -/
theorem pace (h : tb.Ok) {mode : PaceMode} {factor : Nat} (hf : mode = .creep → 2 ≤ factor ∧ factor ≤ 16) {tb' : Timebase}
    (hp : tb.pace mode factor = some tb') : tb'.Ok := by
  unfold Timebase.pace at hp
  split at hp
  · cases hp
  next ht =>
  have early : mode ≠ .hold → tb.machTime ≠ Config.lastMachTime := fun hm e => ht ⟨e, hm⟩
  split at hp <;> try cases hp
  case h_1 => exact h
  case h_2 => exact h.toHold
  case h_3 => exact h
  case h_4 => exact h.toRunning (mode := .run) nofun (early nofun) rfl h.factor
  case h_5 hm =>
    split at hp <;> cases hp
    next hlt =>
    have steps := h.steps
    exact { h with steps := by simp only [hm, if_true] at steps ⊢; omega }
  case h_7 => exact h.toRunning (mode := .step) nofun (early nofun) (by decide) h.factor
  case h_9 => exact { h with factor := hf rfl }
  case h_10 => exact h.toRunning (mode := .creep) nofun (early nofun) rfl (hf rfl)

theorem settime (h : tb.Ok) (hm : tb.mode = .hold) (hd : tb.timeEndDue = false) {n : Nat} (hn : n ≤ Config.lastMachTime) :
    { tb with machTime := n }.Ok :=
  { h with machTime := hn, timeEndDue := by simp [hd], timeEnd := fun _ => .inr hm }

theorem setclock (h : tb.Ok) (hm : tb.mode = .hold) {tdiv cycle : Nat} (ht : 1 ≤ tdiv ∧ tdiv ≤ 256)
    (hc : 16 ≤ cycle ∧ cycle ≤ 16777216) : { tb with tdiv := tdiv, cycle := cycle }.Ok where
  __ := h
  tdiv := ht
  cycle := hc
  machPrescale := (h.stopped (by simp [Timebase.running, hm])).1 ▸ ht.1

theorem wallTick (h : tb.Ok) {n : Nat} (hn : n < Config.wallModulus) :
    { tb with wallTickDue := false, wallPrescale := 0, wallTime := n }.Ok :=
  { h with wallTime := hn, wallPrescale := Nat.zero_le _ }

theorem afterTick (h : tb.Ok) (hr : tb.running = true) (ht : tb.machTime < Config.lastMachTime) : tb.afterTick.Ok where
  __ := h
  machTime := ht
  machPrescale := h.tdiv.1
  stopped e := by cases hr.symm.trans e
  boundary e := by
    have hm : tb.mode = .step ∨ tb.mode = .creep := by simp [Timebase.afterTick] at e; exact e.2
    refine hm.imp id fun hm => ⟨hm, ?_⟩
    have hm : tb.mode = .creep := hm
    change tb.creepHolding = false
    simpa [Timebase.running, hm] using hr
  timeEndDue e := of_decide_eq_true e
  timeEnd e := .inl (decide_eq_true e)

theorem boundaryTaken (h : tb.Ok) {n : Nat} (hm : tb.mode = .step) (hn : 1 ≤ n ∧ n ≤ Config.maxSteps) :
    { tb with boundaryDue := false, pendingSteps := n }.Ok :=
  { h with boundary := nofun, steps := by simpa [hm] using hn }

theorem creepHold (h : tb.Ok) (hm : tb.mode = .creep) : { tb with
    boundaryDue := false, creepHolding := true, machPrescale := 0, machTickDue := false,
    holdCount := (tb.factor - 1) * tb.cycle * tb.tdiv }.Ok where
  __ := h
  machPrescale := h.tdiv.1
  stopped _ := ⟨rfl, rfl⟩
  holding _ := hm
  holdCount := Nat.mul_le_mul (Nat.mul_le_mul (by have := h.factor; omega) h.cycle.2) h.tdiv.2
  countsDown := nofun
  boundary := nofun

theorem creepRun (h : tb.Ok) (hm : tb.mode = .creep) (hh : tb.creepHolding = true) : { tb with
    holdEndDue := false, creepHolding := false, holdCount := 0, machPrescale := 0 }.Ok where
  __ := h
  machPrescale := h.tdiv.1
  stopped e := by simp [Timebase.running, hm] at e
  holding := nofun
  holdCount := Nat.zero_le _
  countsDown _ := ⟨rfl, rfl⟩
  boundary e := by
    have := h.boundary e
    simp [hm, hh] at this

theorem timeEnded (h : tb.Ok) : { tb.toHold with timeEndDue := false }.Ok :=
  { h.toHold with timeEndDue := nofun, timeEnd := fun _ => .inr rfl }

theorem clocked (h : tb.Ok) : tb.clocked.Ok where
  __ := h
  wallPrescale := by
    have := h.wallPrescale
    simp only [Timebase.clocked]
    split <;> omega
  machPrescale := by
    have := h.machPrescale
    simp only [Timebase.clocked]
    split <;> omega
  stopped e := by
    have e : tb.running = false := e
    simpa [Timebase.clocked, e] using h.stopped e
  holdCount := by
    have := h.holdCount
    simp only [Timebase.clocked]
    split <;> omega
  countsDown e := by
    have e : tb.creepHolding = false := e
    simpa [Timebase.clocked, e] using h.countsDown e

end Timebase.Ok

/-! ### Every command keeps them -/

theorem paceArgs_creep {payload : List Byte} {mode : PaceMode} {factor : Nat} (h : paceArgs payload = some (mode, factor)) :
    mode = .creep → 2 ≤ factor ∧ factor ≤ 16 := by
  unfold paceArgs at h
  rintro rfl
  dsimp only at h
  split at h
  · cases h
  · split at h <;> cases h
    assumption
  · next hm _ => cases h; exact absurd rfl (hm · )

theorem setclockArgs_range {payload : List Byte} {tdiv cycle : Nat} (h : setclockArgs payload = some (tdiv, cycle)) :
    (1 ≤ tdiv ∧ tdiv ≤ 256) ∧ 16 ≤ cycle ∧ cycle ≤ 16777216 := by
  unfold setclockArgs at h
  dsimp only at h
  split at h <;> cases h
  next hr => exact ⟨⟨hr.1, hr.2.1⟩, hr.2.2⟩

theorem paceRequest_tb_ok {p : Port} {payload : List Byte} {s : State} (h : s.tb.Ok) : (paceRequest p payload s).1.tb.Ok := by
  unfold paceRequest
  split
  · exact h
  next hargs =>
  split
  · split
    · exact h
    · next hp =>
      have := h.pace (paceArgs_creep hargs) hp
      dsimp only
      split <;> simpa
  · exact h

theorem setclockRequest_tb_ok {p : Port} {payload : List Byte} {s : State} (h : s.tb.Ok) :
    (setclockRequest p payload s).1.tb.Ok := by
  unfold setclockRequest
  split
  · exact h
  next hargs =>
  obtain ⟨ht, hc⟩ := setclockArgs_range hargs
  split
  · split
    · next hm => exact h.setclock hm ht hc
    · exact h
  · exact h

theorem settimeRequest_tb_ok {p : Port} {payload : List Byte} {s : State} (h : s.tb.Ok ∧ s.tb.timeEndDue = false) :
    (settimeRequest p payload s).1.tb.Ok ∧ (settimeRequest p payload s).1.tb.timeEndDue = false := by
  unfold settimeRequest
  split
  · split
    · next hm => exact ⟨h.1.settime hm h.2 (Nat.le_pred_of_lt (fieldOf_lt payload 0 6)), h.2⟩
    · exact h
  · exact h

theorem wallTickEvent_tb_ok {s : State} (h : s.tb.Ok) : (wallTickEvent s).tb.Ok := by
  unfold wallTickEvent
  split
  · exact h
  · exact h.wallTick (Nat.mod_lt _ (by decide))

theorem machineTickEvent_tb_ok {s : State} (h : s.tb.Ok) : (machineTickEvent s).tb.Ok := by
  unfold machineTickEvent
  split
  · next hr =>
    simp only [State.tickReady, Bool.and_eq_true, decide_eq_true_eq] at hr
    exact h.afterTick hr.1.1.1.1 hr.1.2
  · exact h

theorem stepBoundaryEvent_tb_ok {s : State} (h : s.tb.Ok) : (stepBoundaryEvent s).tb.Ok := by
  unfold stepBoundaryEvent
  split
  · next hb =>
    have steps := h.steps
    rw [if_pos hb.2] at steps
    split
    · exact h.boundaryTaken hb.2 ⟨by omega, by omega⟩
    · simpa using h.toHold
  · exact h

theorem creepHoldStartEvent_tb_ok {s : State} (h : s.tb.Ok) : (creepHoldStartEvent s).tb.Ok := by
  unfold creepHoldStartEvent
  split
  · next hb => exact h.creepHold hb.2
  · exact h

theorem creepHoldEndEvent_tb_ok {s : State} (h : s.tb.Ok) : (creepHoldEndEvent s).tb.Ok := by
  unfold creepHoldEndEvent
  split
  · next hb => exact h.creepRun hb.1 hb.2
  · exact h

theorem timeEndEvent_tb_ok {s : State} (h : s.tb.Ok) : (timeEndEvent s).tb.Ok := by
  unfold timeEndEvent
  split
  · simpa using h.timeEnded
  · exact h

theorem reset_tb_ok : State.reset.tb.Ok := by
  constructor <;> decide

theorem exec_tb_ok {i : Instr} {s t : State} (h : exec i s = .next t) (hs : s.tb.Ok) : t.tb.Ok := by
  cases i <;> obtain rfl := Host.Outcome.next.inj h
  case resetEntry n => rcases resetEntry_eq n s with e | e <;> rw [e]; exacts [hs, reset_tb_ok]
  case resetRelease pins => rcases resetRelease_eq pins s with e | e <;> rw [e]; exacts [hs, reset_tb_ok]
  case powerApplied => exact reset_tb_ok
  case wallTick => exact wallTickEvent_tb_ok hs
  case machineTick => exact machineTickEvent_tb_ok hs
  case stepBoundary => exact stepBoundaryEvent_tb_ok hs
  case creepHoldStart => exact creepHoldStartEvent_tb_ok hs
  case creepHoldEnd => exact creepHoldEndEvent_tb_ok hs
  case timeEnd => exact timeEndEvent_tb_ok hs
  case pace p => 
    exact takeRequest_induct (P := fun s => s.tb.Ok) (by simp) (by simp) (fun _ _ => paceRequest_tb_ok) hs
  case setclock p => 
    exact takeRequest_induct (P := fun s => s.tb.Ok) (by simp) (by simp) (fun _ _ => setclockRequest_tb_ok) hs
  case settime p =>
    split
    · exact hs
    · next hd =>
      exact (takeRequest_induct (P := fun s => s.tb.Ok ∧ s.tb.timeEndDue = false) (by simp) (by simp)
        (fun _ _ => settimeRequest_tb_ok) ⟨hs, by simpa using hd⟩).1
  all_goals simpa [takeScheduleRequest, apply_ite State.tb] using hs

/-- Settles O52: each command that moves the Timebase keeps its ranges, and so does a TCLK period. -/
theorem stepKeepsTimebase : Obligations.StepKeepsTimebase := fun _ _ hs h =>
  step_induct (P := fun s => s.tb.Ok) (fun _ _ h => h)
    (fun s h => by unfold clockPeriod; split; exacts [h, h.clocked]) (fun _ _ _ => exec_tb_ok) hs h

end Sys2Proof.Machine
end

section
/-! PROOFS. The Action Schedule: the list's order, the choice of a tag, the repeat, and what every event keeps of them. -/

namespace Sys2Proof.Machine

/-! ### The list's order (R21) -/

theorem Entry.before_of_due_lt {a b c : Entry} (h : a.due < b.due) (hbc : b.before c) : a.before c := by
  rcases hbc with hd | ⟨hd, -⟩
  · exact .inl (h.trans hd)
  · exact .inl (hd ▸ h)

theorem insertEntry_pairwise {e : Entry} {l : List Entry} (hl : l.Pairwise Entry.before) (fresh : ∀ x ∈ l, x.seq < e.seq) :
    (insertEntry e l).Pairwise Entry.before := by
  induction l with
  | nil => simp [insertEntry]
  | cons x l ih =>
    obtain ⟨hx, hl'⟩ := List.pairwise_cons.1 hl
    unfold insertEntry
    split
    · next due =>
      refine List.pairwise_cons.2 ⟨fun y hy => ?_, ih hl' fun y hy => fresh y (.tail _ hy)⟩
      rcases mem_insertEntry.1 hy with rfl | hy
      · have := fresh x (.head _)
        rcases Nat.lt_or_eq_of_le due with lt | eq
        · exact .inl lt
        · exact .inr ⟨eq, this⟩
      · exact hx y hy
    · next due =>
      have lt : e.due < x.due := Nat.lt_of_not_le due
      refine List.pairwise_cons.2 ⟨fun y hy => ?_, hl⟩
      rcases List.mem_cons.1 hy with rfl | hy
      · exact .inl lt
      · exact Entry.before_of_due_lt lt (hx y hy)

theorem sublist_insertEntry (e : Entry) (l : List Entry) : l.Sublist (insertEntry e l) := by
  induction l with
  | nil => simp
  | cons x l ih =>
    unfold insertEntry
    split
    · exact ih.cons_cons x
    · exact .cons _ (.refl _)

/-! ### The tag (R23) -/

theorem repeat_succ_left {α : Type} (f : α → α) (k : Nat) (a : α) : Nat.repeat f (k + 1) a = Nat.repeat f k (f a) := by
  induction k with
  | zero => rfl
  | succ k ih => exact congrArg f ih

theorem repeat_nextTag {n : Nat} (h : 1 ≤ n ∧ n ≤ 65535) (k : Nat) :
    Nat.repeat nextTag k n = (n - 1 + k) % 65535 + 1 := by
  induction k with
  | zero => simp only [Nat.repeat]; omega
  | succ k ih =>
    simp only [Nat.repeat, ih, nextTag, Config.max16]
    split <;> omega

/-- The search passes over tags in use, and stops at a free one or where its fuel ends. -/
theorem freeTag_spec (entries : List Entry) (fuel n : Nat) :
    ∃ k, k ≤ fuel ∧ freeTag entries fuel n = Nat.repeat nextTag k n ∧
      (∀ j, j < k → ∃ e ∈ entries, e.tag = Nat.repeat nextTag j n) ∧
      (k < fuel → ∀ e ∈ entries, e.tag ≠ Nat.repeat nextTag k n) := by
  induction fuel generalizing n with
  | zero => exact ⟨0, le_rfl, rfl, nofun, nofun⟩
  | succ fuel ih =>
    unfold freeTag
    split
    · next used =>
      obtain ⟨k, hk, heq, below, free⟩ := ih (nextTag n)
      refine ⟨k + 1, by omega, by rw [heq, repeat_succ_left], fun j hj => ?_, fun hlt => ?_⟩
      · cases j with
        | zero => simpa [Nat.repeat] using used
        | succ j => rw [repeat_succ_left]; exact below j (by omega)
      · rw [repeat_succ_left]; exact free (by omega)
    · next unused =>
      exact ⟨0, by omega, rfl, nofun, fun _ => by simpa [Nat.repeat] using unused⟩

/-- With k entries held, one of k + 1 successive tags is free: k + 1 different tags do not fit in a list of k. -/
theorem exists_free_tag {l : List Nat} {n : Nat} (hl : l.length < 65535) (hn : 1 ≤ n ∧ n ≤ 65535) :
    ∃ j, j ≤ l.length ∧ Nat.repeat nextTag j n ∉ l := by
  by_contra h
  push Not at h
  have nodup : ((List.range (l.length + 1)).map fun j => Nat.repeat nextTag j n).Nodup := by
    refine List.Nodup.map_on (fun a ha b hb hab => ?_) List.nodup_range
    rw [List.mem_range] at ha hb
    rw [repeat_nextTag hn, repeat_nextTag hn] at hab
    omega
  have subset : ((List.range (l.length + 1)).map fun j => Nat.repeat nextTag j n) ⊆ l := by
    intro x hx
    obtain ⟨j, hj, rfl⟩ := List.mem_map.1 hx
    exact h j (Nat.lt_succ_iff.1 (List.mem_range.1 hj))
  have := (List.subperm_of_subset nodup subset).length_le
  simp at this

theorem chooseTag_spec {sc : Schedule} (h : sc.Ok) :
    ∃ k, sc.chooseTag = Nat.repeat nextTag k sc.tagCounter ∧
      (∀ j, j < k → ∃ e ∈ sc.entries, e.tag = Nat.repeat nextTag j sc.tagCounter) ∧
      ∀ e ∈ sc.entries, e.tag ≠ sc.chooseTag := by
  have capacity := h.capacity
  obtain ⟨k, hk, heq, below, free⟩ := freeTag_spec sc.entries sc.entries.length sc.tagCounter
  refine ⟨k, heq, below, fun e he => ?_⟩
  rw [Schedule.chooseTag, heq]
  rcases Nat.lt_or_eq_of_le hk with hk | rfl
  · exact free hk e he
  · obtain ⟨j, hj, hfree⟩ := exists_free_tag (l := sc.entries.map Entry.tag) (n := sc.tagCounter)
      (by rw [List.length_map]; exact capacity.trans_lt (by decide)) h.counter
    rw [List.length_map] at hj
    rcases Nat.lt_or_eq_of_le hj with hj | rfl
    · obtain ⟨x, hx, hxt⟩ := below j hj
      exact absurd (List.mem_map.2 ⟨x, hx, hxt⟩) hfree
    · exact fun het => hfree (List.mem_map.2 ⟨e, he, het⟩)

theorem nextTag_range (n : Nat) : 1 ≤ nextTag n ∧ nextTag n ≤ Config.max16 := by
  simp only [nextTag, Config.max16]
  by_cases h : 65535 ≤ n <;> simp only [h, if_true, if_false] <;> omega

theorem repeat_nextTag_range {n : Nat} (h : 1 ≤ n ∧ n ≤ 65535) (k : Nat) :
    1 ≤ Nat.repeat nextTag k n ∧ Nat.repeat nextTag k n ≤ 65535 := by
  rw [repeat_nextTag h]
  omega

theorem chooseTag_range {sc : Schedule} (h : sc.Ok) : 1 ≤ sc.chooseTag ∧ sc.chooseTag ≤ 65535 := by
  obtain ⟨k, heq, -⟩ := chooseTag_spec h
  exact heq ▸ repeat_nextTag_range h.counter k

/-- Settles O14: the search ends at a free tag, for one of k + 1 successive tags is free. -/
theorem tagIsFirstFree : Obligations.TagIsFirstFree := by
  intro sc h
  obtain ⟨k, heq, below, free⟩ := chooseTag_spec h
  exact ⟨(chooseTag_range h).1, (chooseTag_range h).2, free, k, heq, below⟩

/-! ### The entries a tick takes (R30) -/

theorem mem_takeWhile_of_sorted {l : List Entry} {t : Nat} (hl : l.Pairwise Entry.before) {e : Entry} (he : e ∈ l)
    (hd : e.due ≤ t) : e ∈ l.takeWhile fun e => decide (e.due ≤ t) := by
  induction l with
  | nil => cases he
  | cons x l ih =>
    obtain ⟨hx, hl'⟩ := List.pairwise_cons.1 hl
    have hxt : x.due ≤ t := by
      rcases List.mem_cons.1 he with rfl | he
      · exact hd
      · rcases hx e he with h | ⟨h, -⟩ <;> omega
    rw [List.takeWhile_cons_of_pos (by simpa using hxt)]
    rcases List.mem_cons.1 he with rfl | he
    · exact .head _
    · exact .tail _ (ih hl' he)

theorem dueAt_prefix (sc : Schedule) (t : Nat) : sc.dueAt t <+: sc.entries :=
  (List.take_prefix _ _).trans (List.takeWhile_prefix _)

theorem dueAt_length (sc : Schedule) (t : Nat) : (sc.dueAt t).length ≤ 8 := List.length_take_le _ _

theorem due_le_of_mem_dueAt {sc : Schedule} {t : Nat} {e : Entry} (h : e ∈ sc.dueAt t) : e.due ≤ t := by
  have := List.mem_takeWhile_imp (List.mem_of_mem_take h)
  simpa using this

/-- Settles O13: insertion keeps the order, and in an ordered list the entries due stand at the head. -/
theorem listOrderDecidesWhatATickTakes : Obligations.ListOrderDecidesWhatATickTakes := by
  refine ⟨fun e l hl fresh => ⟨insertEntry_pairwise hl fresh, insertEntry_perm e l, sublist_insertEntry e l⟩,
    fun sc t h => ⟨dueAt_prefix sc t, dueAt_length sc t, fun e => due_le_of_mem_dueAt, fun hlt e he hd => ?_⟩⟩
  have all := mem_takeWhile_of_sorted h.order he hd
  rw [Schedule.dueAt, List.length_take] at hlt
  rwa [Schedule.dueAt, List.take_of_length_le (by simp only [Config.fireBudget] at hlt ⊢; omega)]

/-! ### What changes of the list keep (R19, R21 to R23) -/

/-- The owner's share after a removal is what is left of it. -/
theorem length_filter_not (l : List Entry) (f g : Entry → Bool) :
    ((l.filter fun e => !f e).filter g).length = (l.filter g).length - (l.filter fun e => f e && g e).length := by
  have split := List.length_eq_length_filter_add (l := l.filter g) f
  simp only [List.filter_filter, Bool.and_comm] at split ⊢
  omega

namespace Schedule.Ok

variable {sc : Schedule}

theorem setWork (h : sc.Ok) {w : Work} (mem : ∀ e ∈ w.open, e ∈ sc.entries)
    (tags : w.open.Pairwise fun a b => a.tag ≠ b.tag) : { sc with work := some w }.Ok :=
  { h with work := by rintro _ ⟨⟩; exact ⟨mem, tags⟩ }

theorem clearWork (h : sc.Ok) : { sc with work := none }.Ok := { h with work := nofun }

theorem setTick (h : sc.Ok) (k : Option Tick) : { sc with tick := k }.Ok := { h with }

theorem remove (h : sc.Ok) (hw : sc.work = none) (f : Entry → Bool) : (sc.remove f).Ok where
  capacity := (List.length_filter_le _ _).trans h.capacity
  order := h.order.filter _
  tags := h.tags.filter _
  tagRange e he := h.tagRange e (List.mem_of_mem_filter he)
  fresh e he := h.fresh e (List.mem_of_mem_filter he)
  due e he := h.due e (List.mem_of_mem_filter he)
  counts p := by
    rw [remove_counts, h.counts p, Schedule.ownedBy, Schedule.ownedBy, remove_entries, length_filter_not]
  quota p := by
    have := h.quota p
    rw [remove_counts]
    omega
  counter := h.counter
  work w e := by cases hw.symm.trans e

/-- The entries stay in order, their tags differ and their numbers are old when one more is put in with a fresh sequence and a free tag. -/
theorem insert_entries (h : sc.Ok) {l : List Entry} (hl : l.Sublist sc.entries) {e : Entry} (seq : e.seq = sc.insertions)
    (tag : ∀ x ∈ l, x.tag ≠ e.tag) :
    (insertEntry e l).Pairwise Entry.before ∧ (insertEntry e l).Pairwise (fun a b => a.tag ≠ b.tag) ∧
      ∀ x ∈ insertEntry e l, x.seq < sc.insertions + 1 := by
  have old : ∀ x ∈ l, x.seq < e.seq := fun x hx => seq ▸ h.fresh x (hl.subset hx)
  refine ⟨insertEntry_pairwise (h.order.sublist hl) old, ?_, fun x hx => ?_⟩
  · rw [(insertEntry_perm e l).pairwise_iff fun hxy => hxy.symm]
    exact List.pairwise_cons.2 ⟨fun x hx => (tag x hx).symm, h.tags.sublist hl⟩
  · rcases mem_insertEntry.1 hx with rfl | hx
    · omega
    · have := old x hx
      omega

theorem accept (h : sc.Ok) (hw : sc.work = none) {e : Entry} (due : e.due ≤ Config.lastMachTime)
    (quota : sc.counts[e.owner] < Config.portQuota) (room : sc.entries.length < Config.scheduleCapacity) :
    (sc.accept e).Ok := by
  obtain ⟨k, heq, below, free⟩ := chooseTag_spec h
  have range := chooseTag_range h
  obtain ⟨order, tags, fresh⟩ := h.insert_entries (.refl _)
    (e := { e with tag := sc.chooseTag, seq := sc.insertions }) rfl free
  have perm := insertEntry_perm { e with tag := sc.chooseTag, seq := sc.insertions } sc.entries
  have counts : ∀ p : Port, (sc.accept e).counts[p] = sc.counts[p] + if e.owner = p then 1 else 0 := by
    intro p
    by_cases hp : e.owner = p
    · subst hp; simp [Schedule.accept]
    · have : e.owner.val ≠ p.val := fun hv => hp (Fin.ext hv)
      simp [Schedule.accept, Vector.getElem_set_ne, hp, this]
  refine ⟨?_, order, tags, fun x hx => ?_, fresh, fun x hx => ?_, fun p => ?_, fun p => ?_, ?_, fun w e => ?_⟩
  · exact perm.length_eq.trans_le room
  · rcases mem_insertEntry.1 hx with rfl | hx
    · exact range
    · exact h.tagRange x hx
  · rcases mem_insertEntry.1 hx with rfl | hx
    · exact due
    · exact h.due x hx
  · rw [counts, h.counts p, Schedule.ownedBy, Schedule.ownedBy, Schedule.accept, (perm.filter _).length_eq]
    by_cases hp : e.owner = p <;> simp [hp]
  · rw [counts]
    have := h.quota p
    split
    · next hp => subst hp; omega
    · exact this
  · exact nextTag_range _
  · cases hw.symm.trans e

end Schedule.Ok

/-! ### The repeat (R37, R38) -/

/-- The next use of an entry is its old self at a later due time. -/
theorem again_some {e e' : Entry} (h : e.again = some e') :
    e'.tag = e.tag ∧ e'.owner = e.owner ∧ e'.due ≤ Config.lastMachTime := by
  unfold Entry.again at h
  split at h
  · cases h
  · split at h
    · cases h
    · next hd =>
      have := Nat.le_of_not_lt hd
      split at h <;> cases h <;> exact ⟨rfl, rfl, this⟩

@[simp] theorem settleRepeat_tick (sc : Schedule) (e : Entry) : (sc.settleRepeat e).tick = sc.tick := by
  unfold Schedule.settleRepeat
  split <;> rfl

@[simp] theorem settleRepeat_work (sc : Schedule) (e : Entry) : (sc.settleRepeat e).work = sc.work := by
  unfold Schedule.settleRepeat
  split <;> rfl

/-- Settling a repeat does not look at the tick in hand. -/
theorem settleRepeat_setWork (sc : Schedule) (e : Entry) (w : Option Work) :
    ({ sc with work := w } : Schedule).settleRepeat e = { sc.settleRepeat e with work := w } := by
  unfold Schedule.settleRepeat
  split <;> rfl

/-- The other entries stay. -/
theorem mem_settleRepeat {sc : Schedule} {e x : Entry} (hx : x ∈ sc.entries) (ht : x.tag ≠ e.tag) :
    x ∈ (sc.settleRepeat e).entries := by
  have hmem : x ∈ sc.entries.filter fun y => !(y.tag == e.tag) := List.mem_filter.2 ⟨hx, by simpa using ht⟩
  unfold Schedule.settleRepeat
  split
  · exact hmem
  · exact mem_insertEntry.2 (.inr hmem)

/-- An entry of the list stands there once among those of its tag. -/
theorem filter_tag_eq {l : List Entry} (hl : l.Pairwise fun a b => a.tag ≠ b.tag) {e : Entry} (he : e ∈ l) :
    l.filter (fun x => x.tag == e.tag) = [e] := by
  induction l with
  | nil => cases he
  | cons x l ih =>
    obtain ⟨hx, hl'⟩ := List.pairwise_cons.1 hl
    rcases List.mem_cons.1 he with rfl | he
    · have others : l.filter (fun x => x.tag == e.tag) = [] :=
        List.filter_eq_nil_iff.2 fun y hy => by simpa using (hx y hy).symm
      simp [others]
    · rw [List.filter_cons_of_neg (by simpa using hx e he), ih hl' he]

/-- The list is the entry and those of other tags. -/
theorem perm_cons_filter_tag {l : List Entry} (hl : l.Pairwise fun a b => a.tag ≠ b.tag) {e : Entry} (he : e ∈ l) :
    l.Perm (e :: l.filter fun x => !(x.tag == e.tag)) := by
  have := (List.filter_append_perm (fun x : Entry => x.tag == e.tag) l).symm
  rwa [filter_tag_eq hl he] at this

theorem Schedule.Ok.settleRepeat {sc : Schedule} (h : sc.Ok) (hw : sc.work = none) {e : Entry} (he : e ∈ sc.entries) :
    (sc.settleRepeat e).Ok := by
  unfold Schedule.settleRepeat
  split
  · exact h.remove hw _
  next e' again =>
  obtain ⟨tag', owner', due'⟩ := again_some again
  have others : ∀ x ∈ sc.entries.filter fun x => !(x.tag == e.tag), x.tag ≠ e.tag := fun x hx => by
    simpa using (List.mem_filter.1 hx).2
  obtain ⟨order, tags, fresh⟩ := h.insert_entries (List.filter_sublist (p := fun x => !(x.tag == e.tag)))
    (e := { e' with seq := sc.insertions }) rfl (fun x hx => tag' ▸ others x hx)
  have perm := insertEntry_perm { e' with seq := sc.insertions } (sc.entries.filter fun x => !(x.tag == e.tag))
  have was := perm_cons_filter_tag h.tags he
  refine ⟨?_, order, tags, fun x hx => ?_, fresh, fun x hx => ?_, fun p => ?_, h.quota, h.counter, fun w e => ?_⟩
  · have := h.capacity
    rw [was.length_eq] at this
    rw [perm.length_eq]
    exact this
  · rcases mem_insertEntry.1 hx with rfl | hx
    · exact tag' ▸ h.tagRange e he
    · exact h.tagRange x (List.mem_of_mem_filter hx)
  · rcases mem_insertEntry.1 hx with rfl | hx
    · exact due'
    · exact h.due x (List.mem_of_mem_filter hx)
  · rw [h.counts p, Schedule.ownedBy, Schedule.ownedBy, (perm.filter _).length_eq, (was.filter _).length_eq]
    simp only [List.filter_cons, owner']
    split <;> rfl
  · cases hw.symm.trans e

/-- The first entry of the tick in hand is settled, and the others are left to take. -/
theorem Schedule.Ok.settleInHand {sc : Schedule} (h : sc.Ok) {w w' : Work} {e : Entry} {rest : List Entry}
    (hw : sc.work = some w) (ho : w.open = e :: rest) (ho' : w'.open = rest) :
    { sc.settleRepeat e with work := some w' }.Ok := by
  obtain ⟨mem, tags⟩ := h.work w hw
  rw [ho] at mem tags
  obtain ⟨others, tags⟩ := List.pairwise_cons.1 tags
  have settled := h.clearWork.settleRepeat rfl (mem e (.head _))
  rw [settleRepeat_setWork] at settled
  refine settled.setWork (w := w') (fun x hx => ?_) (ho' ▸ tags)
  rw [ho'] at hx
  exact mem_settleRepeat (mem x (.tail _ hx)) (others x hx).symm

/-! ### The machine tick keeps the schedule -/

theorem takeEntry_sched_ok {s : State} (h : s.sched.Ok) {w : Work} {e : Entry} {rest : List Entry}
    (hw : s.sched.work = some w) (hh : w.handed = none) (hr : w.rest = e :: rest) : (takeEntry w e rest s).sched.Ok := by
  have ho : w.open = e :: rest := by simp [Work.open, hh, hr]
  obtain ⟨mem, tags⟩ := h.work w hw
  rw [ho] at mem tags
  unfold takeEntry
  split
  · split
    · simpa using h.settleInHand hw ho (w' := { w with rest := rest, marks := w.marks ++ [(e.owner, e.tag)] })
        (by simp [Work.open, hh])
    · exact h.setWork mem tags
  · simpa using h.settleInHand hw ho (w' := { w with rest := rest }) (by simp [Work.open, hh])

theorem takeEntries_sched_ok {s : State} (h : s.sched.Ok) (n : Nat) : (takeEntries n s).sched.Ok := by
  induction n generalizing s with
  | zero => exact h
  | succ n ih =>
    unfold takeEntries
    split
    · exact h
    · next w hw =>
      split
      · next e rest hh hr => exact ih (takeEntry_sched_ok h hw hh hr)
      · exact h

theorem finishTick_sched_ok {s : State} (h : s.sched.Ok) : (finishTick s).sched.Ok := by
  unfold finishTick
  split
  · split
    · dsimp only
      split
      · exact h.clearWork
      · exact h.clearWork
    · exact h
  · exact h

theorem openTick_sched_ok {s : State} (h : s.sched.Ok) : (openTick s).sched.Ok := by
  unfold openTick
  split
  · next k _ _ =>
    have entries := (dueAt_prefix s.sched k.time).sublist
    exact (h.setTick none).setWork (fun e he => entries.subset he) (h.tags.sublist entries)
  · exact h

theorem applicationEvent_sched_ok {s : State} (h : s.sched.Ok) : (applicationEvent s).sched.Ok := by
  unfold applicationEvent
  split
  · next w hw =>
    split
    · next e he =>
      rw [State.hear_sched]
      apply finishTick_sched_ok
      simpa using h.settleInHand hw (w' := { w with handed := none }) (by rw [Work.open, he]; rfl) rfl
    · exact h
  · exact h

/-! ### Removals and requests keep the schedule -/

theorem work_none_of_idle {s : State} (h : s.scheduleBusy = false) : s.sched.work = none := by
  simpa [State.scheduleBusy] using h

theorem leaseEndPurgeEvent_sched_ok {s : State} (h : s.sched.Ok) (c : Chan) : (leaseEndPurgeEvent c s).sched.Ok := by
  unfold leaseEndPurgeEvent
  split
  · split
    · exact h
    · next idle =>
      have hw := work_none_of_idle (eq_false_of_ne_true idle)
      dsimp only
      split <;> simpa using h.remove hw _
  · exact h

theorem tripPurgeEvent_sched_ok {s : State} (h : s.sched.Ok) (g : GroupId) : (tripPurgeEvent g s).sched.Ok := by
  unfold tripPurgeEvent
  split
  · exact h
  · split
    · exact h
    · next idle => simpa using h.remove (work_none_of_idle (eq_false_of_ne_true idle)) _

theorem scheduleTeardownEvent_sched_ok {s : State} (h : s.sched.Ok) (p : Port) : (scheduleTeardownEvent p s).sched.Ok := by
  unfold scheduleTeardownEvent
  split
  · split
    · exact h
    · next idle => exact h.remove (work_none_of_idle (eq_false_of_ne_true idle)) _
  · exact h

/-- An entry read from a payload belongs to the sender and is due at a machine time. -/
theorem submitEntry_some {p : Port} {payload : List Byte} {e : Entry} (h : submitEntry p payload = some e) :
    e.owner = p ∧ e.due ≤ Config.lastMachTime := by
  unfold submitEntry at h
  dsimp only at h
  split at h
  · split at h <;> cases h
    exact ⟨rfl, Nat.le_pred_of_lt (fieldOf_lt payload 2 6)⟩
  · cases h

theorem submitRefusal_none {s : State} {p : Port} {e : Entry} (h : s.submitRefusal p e = none) :
    s.sched.counts[p] < Config.portQuota ∧ s.sched.entries.length < Config.scheduleCapacity := by
  unfold State.submitRefusal at h
  repeat' (split at h; · cases h)
  next quota capacity => exact ⟨Nat.lt_of_not_le quota, Nat.lt_of_not_le capacity⟩

theorem submitRequest_sched_ok {s : State} {p : Port} {payload : List Byte} (h : s.sched.Ok ∧ s.sched.work = none) :
    (submitRequest p payload s).1.sched.Ok ∧ (submitRequest p payload s).1.sched.work = none := by
  unfold submitRequest
  split
  · exact h
  next e he =>
  obtain ⟨rfl, due⟩ := submitEntry_some he
  split
  · exact h
  · next pass =>
    obtain ⟨quota, room⟩ := submitRefusal_none pass
    exact ⟨h.1.accept h.2 due quota room, h.2⟩

theorem cancelRequest_sched_ok {s : State} {p : Port} {payload : List Byte} (h : s.sched.Ok ∧ s.sched.work = none) :
    (cancelRequest p payload s).1.sched.Ok ∧ (cancelRequest p payload s).1.sched.work = none := by
  unfold cancelRequest
  split
  · exact h
  · split
    · exact ⟨h.1.remove h.2 _, h.2⟩
    · exact h

theorem cancelChannelRequest_sched_ok {s : State} {p : Port} {payload : List Byte} (h : s.sched.Ok ∧ s.sched.work = none) :
    (cancelChannelRequest p payload s).1.sched.Ok ∧ (cancelChannelRequest p payload s).1.sched.work = none := by
  unfold cancelChannelRequest
  split
  · exact h
  · exact ⟨h.1.remove h.2 _, h.2⟩

theorem takeScheduleRequest_sched_ok {k : ReqKind} {p : Port} {body : List Byte → State → State × Answer} {s : State}
    (done : ∀ payload s, s.sched.Ok ∧ s.sched.work = none →
      (body payload s).1.sched.Ok ∧ (body payload s).1.sched.work = none) (h : s.sched.Ok) :
    (takeScheduleRequest k p body s).sched.Ok :=
  takeScheduleRequest_cases (P := fun s => s.sched.Ok) h fun idle =>
    (takeRequest_induct (P := fun s => s.sched.Ok ∧ s.sched.work = none) (by simp) (by simp) done
      ⟨h, work_none_of_idle idle⟩).1

/-! ### Every step keeps the schedule -/

theorem machineTickEvent_sched_ok {s : State} (h : s.sched.Ok) : (machineTickEvent s).sched.Ok := by
  unfold machineTickEvent
  split
  · exact h.setTick _
  · exact h

theorem reset_sched_ok : State.reset.sched.Ok where
  capacity := Nat.zero_le _
  order := .nil
  tags := .nil
  tagRange := nofun
  fresh := nofun
  due := nofun
  counts := by decide
  quota := by decide
  counter := by decide
  work := nofun

theorem exec_sched_ok {i : Instr} {s t : State} (h : exec i s = .next t) (hs : s.sched.Ok) : t.sched.Ok := by
  cases i <;> obtain rfl := Host.Outcome.next.inj h
  case resetEntry n => rcases resetEntry_eq n s with e | e <;> rw [e]; exacts [hs, reset_sched_ok]
  case resetRelease pins => rcases resetRelease_eq pins s with e | e <;> rw [e]; exacts [hs, reset_sched_ok]
  case powerApplied => exact reset_sched_ok
  case machineTick => exact machineTickEvent_sched_ok hs
  case scheduleTick slice => exact finishTick_sched_ok (takeEntries_sched_ok (openTick_sched_ok hs) slice)
  case application => exact applicationEvent_sched_ok hs
  case leaseEndPurge c => exact leaseEndPurgeEvent_sched_ok hs c
  case tripPurge g => exact tripPurgeEvent_sched_ok hs g
  case scheduleTeardown p => exact scheduleTeardownEvent_sched_ok hs p
  case submit p => exact takeScheduleRequest_sched_ok (fun _ _ => submitRequest_sched_ok) hs
  case cancel p => exact takeScheduleRequest_sched_ok (fun _ _ => cancelRequest_sched_ok) hs
  case cancelChannel p => exact takeScheduleRequest_sched_ok (fun _ _ => cancelChannelRequest_sched_ok) hs
  all_goals simpa [takeScheduleRequest, apply_ite State.sched] using hs

/-- Settles O53: insertions, removals and repeats keep the list, and the tick in hand holds entries of it. -/
theorem stepKeepsSchedule : Obligations.StepKeepsSchedule := fun _ _ hs h =>
  step_induct (P := fun s => s.sched.Ok) (fun _ _ h => h) (fun s h => by simpa using h) (fun _ _ _ => exec_sched_ok) hs h

end Sys2Proof.Machine
end

section
/-! PROOFS. Output Channels and Input Lines: what every event keeps of a channel's and of a line's record. -/

namespace Sys2Proof.Machine

theorem forall_chan_setChan {Q : Channel → Prop} {s : State} {c : Chan} {x : Channel} (h : ∀ d, Q (s.chan d)) (hx : Q x) (d : Chan) :
    Q ((s.setChan c x).chan d) := by
  rw [State.chan_setChan]
  split
  · exact hx
  · exact h d

theorem forall_line_setLine {Q : Line → Prop} {s : State} {i : LineId} {x : Line} (h : ∀ j, Q (s.line j)) (hx : Q x) (j : LineId) :
    Q ((s.setLine i x).line j) := by
  rw [State.line_setLine]
  split
  · exact hx
  · exact h j

/-! ### A channel's record (R52, R69) -/

namespace Channel.Ok

variable {x : Channel}

/-- A channel with a waveform in flight is not LOCKED. -/
theorem unlocked_of_wave (h : x.Ok) {w : Wave} (hw : x.wave = some w) : x.lockSet = 0 := by
  by_contra hl
  cases hw.symm.trans (h.locked hl).1

/-- A channel that is not LOCKED may stand at any level with nothing in flight. -/
theorem idle {x : Channel} (hl : x.lockSet = 0) (hw : x.wave = none) : x.Ok where
  locked h := absurd hl h
  phase w e := by cases hw.symm.trans e
  pulse w e := by cases hw.symm.trans e

/-- A channel that is not LOCKED may carry a waveform whose phase its level shows. -/
theorem wave {x : Channel} (hl : x.lockSet = 0) {w : Wave} (hw : x.wave = some w)
    (level : x.level = if w.active then !w.rest else w.rest) (pulse : w.kind = .pulse → w.active = true) : x.Ok where
  locked h := absurd hl h
  phase _ e := by cases hw.symm.trans e; exact level
  pulse _ e := by cases hw.symm.trans e; exact pulse

theorem setTick (h : x.Ok) (k : Option Tick) : { x with tick := k }.Ok := { h with }

theorem locked_ok (h : x.Ok) (g : GroupId) : (x.locked g).Ok := by
  unfold Channel.locked
  split
  · exact { locked := fun _ => ⟨rfl, rfl⟩, phase := nofun, pulse := nofun }
  · next hl => exact { h with locked := fun _ => h.locked hl }

theorem unlocked_ok (h : x.Ok) (g : GroupId) : (x.unlocked g).Ok where
  __ := h
  locked hl := h.locked fun e => hl (by simp [Channel.unlocked, e])

theorem endLease (h : x.Ok) : x.endLease.Ok := by
  unfold Channel.endLease
  split
  · exact h
  · next hl =>
    have hl : x.lockSet = 0 := Decidable.not_not.1 hl
    have rest : x.toRest.lockSet = 0 ∧ x.toRest.wave = none := by
      unfold Channel.toRest
      split
      · next hw => exact ⟨hl, hw⟩
      · exact ⟨hl, rfl⟩
    dsimp only
    split <;> exact idle rest.1 rest.2

theorem count (h : x.Ok) (ordinal : Nat) : (x.count ordinal).Ok := by
  unfold Channel.count
  split
  · exact h
  · next w hw =>
    split
    · exact h
    · exact wave (h.unlocked_of_wave hw) rfl (h.phase w hw) (h.pulse w hw)

end Channel.Ok

/-! ### An action applied keeps the channels -/

theorem applySet_chan_ok {s : State} (h : ∀ d, (s.chan d).Ok) {c : Chan} (hl : (s.chan c).lockSet = 0) (level : Level)
    (tag : Nat) (d : Chan) : ((applySet c level tag s).chan d).Ok := by
  rw [chan_applySet]
  split
  · exact .idle hl rfl
  · exact h d

theorem applyWave_chan_ok {s : State} (h : ∀ d, (s.chan d).Ok) {c : Chan} (hl : (s.chan c).lockSet = 0) (e : Entry)
    (kind : WaveKind) (ticks ordinal : Nat) (d : Chan) : ((applyWave c e kind ticks ordinal s).chan d).Ok := by
  have rest : (s.chan c).toRest.lockSet = 0 := by
    unfold Channel.toRest
    split <;> exact hl
  refine forall_chan_setChan (Q := Channel.Ok) (by simpa using h) ?_ d
  rw [State.postSuperseded_chan]
  exact .wave rest rfl rfl fun _ => rfl

theorem applyGroupSet_chan_ok {s : State} (h : ∀ d, (s.chan d).Ok) {cs : List Chan}
    (hl : ∀ c ∈ cs, (s.chan c).lockSet = 0) (values : ChanSet) (tag : Nat) (d : Chan) :
    ((applyGroupSet values tag cs s).chan d).Ok := by
  rw [chan_applyGroupSet]
  split
  · next hd => exact .idle (hl d hd) rfl
  · exact h d

theorem unlocked_of_applicationRefusal {s : State} {e : Entry} (h : s.applicationRefusal e = none) {c : Chan}
    (hc : c ∈ chansOf e.action.names) : (s.chan c).lockSet = 0 := by
  by_contra hl
  have := applicationRefusal_of_locked ⟨c, mem_chansOf.1 hc, hl⟩
  cases h.symm.trans this

theorem mem_chansOf_one (c : Chan) : c ∈ chansOf (BitVec.ofNat 16 (2 ^ c.val)) := by
  rw [chansOf_one]
  exact .head _

theorem applyAction_chan_ok {s : State} (h : ∀ d, (s.chan d).Ok) {e : Entry} (pass : s.applicationRefusal e = none)
    (ordinal : Nat) (d : Chan) : ((applyAction e ordinal s).chan d).Ok := by
  have free : ∀ c ∈ chansOf e.action.names, (s.chan c).lockSet = 0 := fun c => unlocked_of_applicationRefusal pass
  unfold applyAction
  split
  · next c level ha => exact applySet_chan_ok h (free c (ha ▸ mem_chansOf_one c)) _ _ d
  · next c width ha => exact applyWave_chan_ok h (free c (ha ▸ mem_chansOf_one c)) _ _ _ _ d
  · next c period onTime pulses ha =>
    exact applyWave_chan_ok h (free c (ha ▸ mem_chansOf_one c)) _ _ _ _ d
  · next mask values ha => exact applyGroupSet_chan_ok h (fun c hc => free c (by simpa [ha, Action.names] using hc)) _ _ d
  · exact h d

theorem takeApplication_chan_ok {s : State} (h : ∀ d, (s.chan d).Ok) (w : Work) (e : Entry) (d : Chan) :
    ((takeApplication w e s).1.chan d).Ok := by
  unfold takeApplication
  dsimp only
  split
  · exact h d
  · next pass => exact applyAction_chan_ok (s := s.hear .channels w.clk) h pass w.ordinal d

theorem applicationEvent_chan_ok {s : State} (h : ∀ d, (s.chan d).Ok) (d : Chan) : ((applicationEvent s).chan d).Ok := by
  cases hw : s.sched.work with
  | none => simpa [applicationEvent, hw] using h d
  | some w =>
    cases he : w.handed with
    | none => simpa [applicationEvent, hw, he] using h d
    | some e =>
      have chans : (applicationEvent s).chan d = (takeApplication w e s).1.chan d :=
        congrArg (·[d]) (applicationEvent_of_handed hw he).1
      exact chans ▸ takeApplication_chan_ok h w e d

/-! ### The channels' own events keep them -/

theorem machineTickEvent_chan_ok {s : State} (h : ∀ d, (s.chan d).Ok) (d : Chan) : ((machineTickEvent s).chan d).Ok := by
  unfold machineTickEvent
  split
  · simp only [State.chan, Fin.getElem_fin, mapRecords, Vector.getElem_ofFn]
    split
    · exact (h d).setTick _
    · exact h d
  · exact h d

theorem channelTickEvent_chan_ok {s : State} (h : ∀ d, (s.chan d).Ok) (c d : Chan) : ((channelTickEvent c s).chan d).Ok := by
  unfold channelTickEvent
  split
  · exact h d
  · split
    · exact h d
    · exact forall_chan_setChan (Q := Channel.Ok) h (((h c).count _).setTick none) d

@[simp] theorem State.postWaveDone_chan (s : State) (w : Wave) (done : Nat) (d : Chan) :
    (s.postWaveDone w done).chan d = s.chan d := by
  simp [State.chan]

theorem pulseEndEvent_chan_ok {s : State} (h : ∀ d, (s.chan d).Ok) (c d : Chan) : ((pulseEndEvent c s).chan d).Ok := by
  unfold pulseEndEvent
  split
  · next w hw =>
    split
    · rw [State.postWaveDone_chan]
      refine forall_chan_setChan (Q := Channel.Ok) h ?_ d
      exact .idle ((h c).unlocked_of_wave hw) rfl
    · exact h d
  · exact h d

theorem trainEdgeEvent_chan_ok {s : State} (h : ∀ d, (s.chan d).Ok) (c d : Chan) : ((trainEdgeEvent c s).chan d).Ok := by
  unfold trainEdgeEvent
  split
  · next w hw =>
    have free := (h c).unlocked_of_wave hw
    split
    · next onTime period ordered done hk =>
      split
      · split
        · dsimp only
          split
          · refine forall_chan_setChan (Q := Channel.Ok) h ?_ d
            exact .wave free rfl rfl nofun
          · rw [State.postWaveDone_chan]
            refine forall_chan_setChan (Q := Channel.Ok) h ?_ d
            exact .idle free rfl
        · refine forall_chan_setChan (Q := Channel.Ok) h ?_ d
          exact .wave free rfl rfl fun _ => rfl
      · exact h d
    · exact h d
  · exact h d

theorem leaseEndShareEvent_chan_ok {s : State} (h : ∀ d, (s.chan d).Ok) (c d : Chan) :
    ((leaseEndShareEvent c s).chan d).Ok := by
  unfold leaseEndShareEvent
  split
  · exact forall_chan_setChan (Q := Channel.Ok) h (h c).endLease d
  · exact h d

theorem lockEvent_chan_ok {s : State} (h : ∀ d, (s.chan d).Ok) (c : Chan) (g : GroupId) (d : Chan) :
    ((lockEvent c g s).chan d).Ok := by
  unfold lockEvent
  split
  · split
    · exact forall_chan_setChan (Q := Channel.Ok) h ((h c).locked_ok g) d
    · exact h d
  · exact h d

@[simp] theorem State.postUnlocked_chan (s : State) (c d : Chan) : (s.postUnlocked c).chan d = s.chan d := by
  simp [State.chan]

theorem unlockEvent_chan_ok {s : State} (h : ∀ d, (s.chan d).Ok) (c : Chan) (g : GroupId) (d : Chan) :
    ((unlockEvent c g s).chan d).Ok := by
  unfold unlockEvent
  split
  · split
    · exact h d
    · have set := forall_chan_setChan (c := c) (Q := Channel.Ok) h ((h c).unlocked_ok g) d
      dsimp only
      split
      · rw [State.postUnlocked_chan]
        exact set
      · exact set
  · exact h d

theorem channelConfigRequest_chan_ok {s : State} (h : ∀ d, (s.chan d).Ok) {p : Port} {payload : List Byte} (d : Chan) :
    ((channelConfigRequest p payload s).1.chan d).Ok := by
  unfold channelConfigRequest
  split
  · exact h d
  next c safe policy _ =>
  split
  · split
    · exact h d
    · next free =>
      have free : (s.chan c).lockSet = 0 := by simpa [chanLocked_iff] using free
      refine forall_chan_setChan (Q := Channel.Ok) h ?_ d
      exact { h c with locked := fun hl => absurd free hl }
  · exact h d

theorem reset_chan (c : Chan) : State.reset.chan c = {} := Vector.getElem_replicate c.isLt

theorem default_channel_ok : ({} : Channel).Ok := .idle rfl rfl

theorem reset_chan_ok (c : Chan) : (State.reset.chan c).Ok := reset_chan c ▸ default_channel_ok

theorem exec_chan_ok {i : Instr} {s t : State} (h : exec i s = .next t) (hs : ∀ d, (s.chan d).Ok) : ∀ d, (t.chan d).Ok := by
  cases i <;> obtain rfl := Host.Outcome.next.inj h
  case resetEntry n => rcases resetEntry_eq n s with e | e <;> rw [e]; exacts [hs, reset_chan_ok]
  case resetRelease pins => rcases resetRelease_eq pins s with e | e <;> rw [e]; exacts [hs, reset_chan_ok]
  case powerApplied => exact reset_chan_ok
  case machineTick => exact machineTickEvent_chan_ok hs
  case application => exact applicationEvent_chan_ok hs
  case channelTick c => exact channelTickEvent_chan_ok hs c
  case pulseEnd c => exact pulseEndEvent_chan_ok hs c
  case trainEdge c => exact trainEdgeEvent_chan_ok hs c
  case leaseEndShare c => exact leaseEndShareEvent_chan_ok hs c
  case lock c g => exact lockEvent_chan_ok hs c g
  case unlock c g => exact unlockEvent_chan_ok hs c g
  case channelConfig p =>
    exact takeRequest_induct (P := fun s => ∀ d, (s.chan d).Ok) (by simp [State.chan]) (by simp)
      (fun _ _ h => channelConfigRequest_chan_ok h) hs
  all_goals simpa [State.chan, takeScheduleRequest, apply_ite State.chans] using hs

/-! ### A line's record (R96) -/

namespace Line.Ok

variable {x : Line}

theorem config {mode : EdgeMode} {q d : Nat} (hq : q ≤ 255) (hd : d ≤ 7) :
    { x with mode := mode, q := q, d := d, decim := 0, stable := 0 }.Ok where
  q := hq
  d := hd
  stable := Nat.lt_of_lt_of_le Nat.one_pos (Nat.le_max_left _ _)
  decim := Nat.two_pow_pos d

theorem qualify (h : x.Ok) (level : Level) : (x.qualify level).Ok where
  __ := h
  stable := Nat.lt_of_lt_of_le Nat.one_pos (Nat.le_max_left _ _)
  decim := by
    have := h.decim
    have := Nat.two_pow_pos x.d
    simp only [Line.qualify]
    split
    · split <;> omega
    · assumption

/-- A sample that completes no run is counted below the run's length. -/
theorem sampled (h : x.Ok) {level : Level} (hc : x.completes level = false) : (x.sampled level).Ok where
  __ := h
  stable := by
    have run : level ≠ x.qualified → ¬ (x.q = 0 ∨ x.q * 16 ≤ x.stable + 1) := fun hd hr => by
      cases hc.symm.trans (Line.completes_iff.2 ⟨hd, hr⟩)
    simp only [Line.sampled]
    split
    · omega
    · next hne =>
      have := run (Ne.symm hne)
      omega

end Line.Ok

theorem lineConfigArgs_range {payload : List Byte} {i : LineId} {mode : EdgeMode} {q d : Nat}
    (h : lineConfigArgs payload = some (i, mode, q, d)) : q ≤ 255 ∧ d ≤ 7 := by
  unfold lineConfigArgs at h
  split at h
  · split at h <;> cases h
    exact ⟨Nat.le_of_lt_succ (fieldOf_lt payload 2 1), ‹_›⟩
  · cases h

theorem qualifyLine_line_ok {s : State} (h : ∀ j, (s.line j).Ok) (i : LineId) (level : Level) (j : LineId) :
    ((qualifyLine i level s).line j).Ok := by
  rw [line_qualifyLine]
  split
  · exact (h i).qualify level
  · exact h j

theorem sampleLine_line_ok {s : State} (h : ∀ j, (s.line j).Ok) (i : LineId) (level : Level) (j : LineId) :
    ((sampleLine i level s).line j).Ok := by
  cases hc : (s.line i).completes level with
  | true => exact sampleLine_of_completes hc ▸ qualifyLine_line_ok h i level j
  | false =>
    rw [sampleLine_of_not_completes hc]
    exact forall_line_setLine (Q := Line.Ok) h ((h i).sampled hc) j

theorem lineSampleEvent_line_ok {s : State} (h : ∀ j, (s.line j).Ok) (i : LineId) (level : Level) (j : LineId) :
    ((lineSampleEvent i level s).line j).Ok := by
  unfold lineSampleEvent
  split
  · exact h j
  · exact sampleLine_line_ok h i level j

theorem qualifiedChangeEvent_line_ok {s : State} (h : ∀ j, (s.line j).Ok) (i : LineId) (level : Level) (j : LineId) :
    ((qualifiedChangeEvent i level s).line j).Ok := by
  unfold qualifiedChangeEvent
  split
  · exact qualifyLine_line_ok h i level j
  · exact h j

theorem lineConfigRequest_line_ok {s : State} (h : ∀ j, (s.line j).Ok) {p : Port} {payload : List Byte} (j : LineId) :
    ((lineConfigRequest p payload s).1.line j).Ok := by
  unfold lineConfigRequest
  split
  · exact h j
  · next hargs =>
    obtain ⟨hq, hd⟩ := lineConfigArgs_range hargs
    split
    · exact forall_line_setLine (Q := Line.Ok) h (.config hq hd) j
    · exact h j

theorem atRelease_ok (level : Level) : (Line.atRelease level).Ok := by
  constructor <;> simp [Line.atRelease]

theorem reset_line (i : LineId) : State.reset.line i = {} := Vector.getElem_replicate i.isLt

theorem reset_line_ok (i : LineId) : (State.reset.line i).Ok := reset_line i ▸ atRelease_ok false

theorem release_line (s : State) (pins : LineSet) (i : LineId) :
    ({ s with lines := Vector.ofFn fun i => Line.atRelease (pins.getLsbD i.val) } : State).line i =
      Line.atRelease (pins.getLsbD i.val) := by
  simp [State.line]

/-- A TCLK period brings the next sample of each line. -/
theorem clockPeriod_line {s : State} (hr : s.inReset = false) (j : LineId) :
    (clockPeriod s).line j = { s.line j with sampleDue := true } := by
  simp [clockPeriod, hr, State.line, mapRecords]

theorem clockPeriod_line_ok {s : State} (h : ∀ j, (s.line j).Ok) (j : LineId) : ((clockPeriod s).line j).Ok := by
  cases hr : s.inReset with
  | true => simpa [clockPeriod, hr] using h j
  | false => exact clockPeriod_line hr j ▸ { h j with }

theorem exec_line_ok {i : Instr} {s t : State} (h : exec i s = .next t) (hs : ∀ j, (s.line j).Ok) : ∀ j, (t.line j).Ok := by
  cases i <;> obtain rfl := Host.Outcome.next.inj h
  case resetEntry n => rcases resetEntry_eq n s with e | e <;> rw [e]; exacts [hs, reset_line_ok]
  case resetRelease pins =>
    rcases resetRelease_eq pins s with e | e <;> rw [e]
    · exact hs
    · exact fun j => release_line _ pins j ▸ atRelease_ok _
  case powerApplied => exact reset_line_ok
  case lineSample i level => exact lineSampleEvent_line_ok hs i level
  case qualifiedChange i level => exact qualifiedChangeEvent_line_ok hs i level
  case lineConfig p =>
    exact takeRequest_induct (P := fun s => ∀ j, (s.line j).Ok) (by simp [State.line]) (by simp)
      (fun _ _ h => lineConfigRequest_line_ok h) hs
  all_goals simpa [State.line, takeScheduleRequest, apply_ite State.lines] using hs

/-- Settles O54: each event that writes a channel's or a line's record keeps what it must be. -/
theorem stepKeepsChannelsAndLines : Obligations.StepKeepsChannelsAndLines :=
  ⟨fun _ _ hs h => step_induct (P := fun s => ∀ c, (s.chan c).Ok) (fun _ _ h => h) (fun s h => by simpa [State.chan] using h)
    (fun _ _ _ => exec_chan_ok) hs h,
  fun _ _ hs h => step_induct (P := fun s => ∀ i, (s.line i).Ok) (fun _ _ h => h) (fun _ => clockPeriod_line_ok)
    (fun _ _ _ => exec_line_ok) hs h⟩

end Sys2Proof.Machine
end

section
/-! PROOFS. The Lease Table: the grant step, the end of a lease, and what every event keeps of the lease records. -/

namespace Sys2Proof.Machine

theorem State.setLease_setLease (s : State) (r : ResId) (x y : Lease) : (s.setLease r x).setLease r y = s.setLease r y := by
  simp only [State.setLease]
  congr 1
  ext i hi
  simp only [Vector.getElem_set]
  split <;> rfl

/-! ### The grant step (R82) -/

/-- The claims ahead of the first one whose port is not CLOSING. -/
theorem queue_split (s : State) (queue : List Claim) : (∀ c ∈ queue, s.isClosing c.port = true) ∨
    ∃ before c later, queue = before ++ c :: later ∧ (∀ x ∈ before, s.isClosing x.port = true) ∧
      s.isClosing c.port = false := by
  induction queue with
  | nil => exact .inl nofun
  | cons c queue ih =>
    cases hc : s.isClosing c.port with
    | false => exact .inr ⟨[], c, queue, rfl, nofun, hc⟩
    | true =>
      rcases ih with all | ⟨before, d, later, rfl, ahead, hd⟩
      · exact .inl (List.forall_mem_cons.2 ⟨hc, all⟩)
      · exact .inr ⟨c :: before, d, later, rfl, List.forall_mem_cons.2 ⟨hc, ahead⟩, hd⟩

theorem grantStep_of_closing {s : State} {r : ResId} (h : ∀ c ∈ (s.lease r).queue, s.isClosing c.port = true) :
    grantStep r s = s.setLease r { s.lease r with holder := none, queue := [], ending := none, revokeDue := false } := by
  rw [grantStep, List.dropWhile_eq_nil_iff.2 h]

theorem grantStep_of_claim {s : State} {r : ResId} {before later : List Claim} {c : Claim}
    (hq : (s.lease r).queue = before ++ c :: later) (ahead : ∀ x ∈ before, s.isClosing x.port = true)
    (hc : s.isClosing c.port = false) :
    grantStep r s = (s.setLease r { s.lease r with
      holder := some c.port, grantWall := s.tb.wallTime, holdLimit := c.hold, queue := later, ending := none,
      revokeDue := false }).post .leases c.port ⟨.granted, r.val, s.grantLevel r, s.tb.machTime⟩ := by
  have first : (s.lease r).queue.dropWhile (fun c => s.isClosing c.port) = c :: later := by
    rw [hq, List.dropWhile_append_of_pos ahead, List.dropWhile_cons_of_neg (by simp [hc])]
  rw [grantStep, first]
  rfl

/-! ### What a lease record must be (R74, R75) -/

namespace Lease.Ok

variable {x : Lease}

theorem claimed (he : x.ending = none) (hq : x.queue = []) (p : Port) (wall hold : Nat) :
    { x with holder := some p, grantWall := wall, holdLimit := hold, revokeDue := false }.Ok where
  once := hq ▸ .nil
  holderOut c hc := by cases hq ▸ hc
  ending e := by cases he ▸ e
  free := nofun
  revoke := nofun

theorem vacant : { x with holder := none, queue := [], ending := none, revokeDue := false }.Ok where
  once := .nil
  holderOut := nofun
  ending := nofun
  free _ _ := rfl
  revoke := nofun

theorem granted {p : Port} {later : List Claim} (once : later.Pairwise fun a b => a.port ≠ b.port)
    (out : ∀ c ∈ later, c.port ≠ p) (wall hold : Nat) :
    { x with holder := some p, grantWall := wall, holdLimit := hold, queue := later, ending := none, revokeDue := false }.Ok where
  once := once
  holderOut c hc e := out c hc (Option.some.inj e).symm
  ending := nofun
  free := nofun
  revoke := nofun

/-- A lease end leaves nobody holding the resource. -/
theorem ends (h : x.Ok) (e : Ending) : { x with holder := none, revokeDue := false, ending := some e }.Ok where
  once := h.once
  holderOut := nofun
  ending _ := rfl
  free := nofun
  revoke := nofun

theorem setEnding (h : x.Ok) (hx : x.ending.isSome) (e : Ending) : { x with ending := some e }.Ok :=
  { h with ending := fun _ => h.ending hx, free := nofun }

/-- A resource with a lease end under way or a holder takes one more claim. -/
theorem queued (h : x.Ok) {c : Claim} (hold : x.holder ≠ some c.port) (wait : ∀ d ∈ x.queue, d.port ≠ c.port)
    (taken : x.free = false) : { x with queue := x.queue ++ [c] }.Ok where
  once := List.pairwise_append.2 ⟨h.once, List.pairwise_singleton _ _, fun a ha b hb => by
    rw [List.mem_singleton.1 hb]
    exact wait a ha⟩
  holderOut d hd := by
    rcases List.mem_append.1 hd with hd | hd
    · exact h.holderOut d hd
    · rw [List.mem_singleton.1 hd]
      exact hold
  ending := h.ending
  free hh he := by
    have hh : x.holder = none := hh
    have he : x.ending = none := he
    simp [Lease.free, hh, he, h.free hh he] at taken
  revoke := h.revoke

theorem withoutPort (h : x.Ok) (p : Port) : { x with queue := withoutPort p x.queue }.Ok where
  once := h.once.filter _
  holderOut c hc := h.holderOut c (List.mem_of_mem_filter hc)
  ending := h.ending
  free hh he := by simp [Machine.withoutPort, h.free hh he]
  revoke := h.revoke

theorem setRevoke (h : x.Ok) (hx : x.holder.isSome) : { x with revokeDue := true }.Ok := { h with revoke := fun _ => hx }

theorem clearRevoke (h : x.Ok) : { x with revokeDue := false }.Ok := { h with revoke := nofun }

theorem stampPurge (h : x.Ok) (p : Port) (clk : Clock) : (x.stampPurge p clk).Ok := by
  unfold Lease.stampPurge
  split
  · next hx =>
    split
    · exact h.setEnding (by rw [hx]; rfl) _
    · exact h
  · exact h

end Lease.Ok

namespace State.LeasesOk

variable {s t : State}

theorem congr (h : s.LeasesOk) (ht : t.leases = s.leases) : t.LeasesOk := by
  have same : ∀ r, t.lease r = s.lease r := fun r => congrArg (·[r]) ht
  exact ⟨fun r => same r ▸ h.each r, same _ ▸ h.timeline⟩

theorem setLease (h : s.LeasesOk) {r : ResId} {x : Lease} (hx : x.Ok) (ht : r = Machine.timeline → x.ending = none) :
    (s.setLease r x).LeasesOk where
  each r' := by
    rw [State.lease_setLease]
    split
    · exact hx
    · exact h.each r'
  timeline := by
    rw [State.lease_setLease]
    split
    · next hr => exact ht hr
    · exact h.timeline

/-- The grant step writes a record that has ended and is granted to a claimant that waited once, or to nobody. -/
theorem grantStep (h : s.LeasesOk) (r : ResId) : (grantStep r s).LeasesOk := by
  rcases queue_split s (s.lease r).queue with all | ⟨before, c, later, hq, ahead, hc⟩
  · rw [grantStep_of_closing all]
    exact h.setLease .vacant fun _ => rfl
  · have once := (h.each r).once
    rw [hq] at once
    obtain ⟨out, once⟩ := List.pairwise_cons.1 (List.pairwise_append.1 once).2.1
    rw [grantStep_of_claim hq ahead hc]
    exact (h.setLease (.granted once (fun d hd => (out d hd).symm) _ _) fun _ => rfl).congr rfl

end State.LeasesOk

/-! ### The end of a lease (R81, R94) -/

theorem resOf_ne_timeline (c : Chan) : resOf c ≠ timeline := Fin.castSucc_ne_last c

theorem endLease_of_ne {r : ResId} (h : r ≠ timeline) (cause : EndCause) (old : Port) (s : State) :
    endLease r cause old s = s.setLease r { s.lease r with
      holder := none, revokeDue := false,
      ending := some { cause := cause, old := old, stage := .purgeHanded, clk := s.clock .leases } } := by
  rw [endLease, if_neg h]

/-- On T the lease end is over in the event that takes it: what it writes first, the grant step writes over. -/
theorem endLease_timeline (cause : EndCause) (old : Port) (s : State) :
    endLease timeline cause old s = grantStep timeline s := by
  rw [endLease, if_pos rfl]
  rcases queue_split s (s.lease timeline).queue with all | ⟨before, c, later, hq, ahead, hc⟩
  · rw [grantStep_of_closing all, grantStep_of_closing (by simpa using all), State.setLease_setLease,
      State.lease_setLease_self]
  · rw [grantStep_of_claim hq ahead hc,
      grantStep_of_claim (s := s.setLease _ _) (before := before) (c := c) (later := later) (by simpa using hq) ahead hc,
      State.setLease_setLease]
    rfl

theorem endLease_leasesOk {s : State} (h : s.LeasesOk) (r : ResId) (cause : EndCause) (old : Port) :
    (endLease r cause old s).LeasesOk := by
  by_cases hr : r = timeline
  · subst hr
    exact endLease_timeline cause old s ▸ h.grantStep _
  · rw [endLease_of_ne hr]
    exact h.setLease ((h.each r).ends _) fun e => absurd e hr

/-! ### The events of the Lease Table -/

/-- A lease end on a channel is handed on to its next stage. -/
theorem setEnding_leasesOk {s v : State} (h : s.LeasesOk) (hv : v.leases = s.leases) {c : Chan} {e : Ending}
    (he : (s.lease (resOf c)).ending = some e) (e' : Ending) :
    (v.setLease (resOf c) { v.lease (resOf c) with ending := some e' }).LeasesOk := by
  have same : v.lease (resOf c) = s.lease (resOf c) := congrArg (·[resOf c]) hv
  refine (h.congr hv).setLease ?_ fun e => absurd e (resOf_ne_timeline c)
  exact same ▸ (h.each (resOf c)).setEnding (by rw [he]; rfl) e'

theorem leaseEndPurgeEvent_leasesOk {s : State} (h : s.LeasesOk) (c : Chan) : (leaseEndPurgeEvent c s).LeasesOk := by
  unfold leaseEndPurgeEvent
  split
  · next he =>
    split
    · exact h
    · refine setEnding_leasesOk h ?_ he _
      dsimp only
      split <;> simp
  · exact h

theorem purgeReportEvent_leasesOk {s : State} (h : s.LeasesOk) (c : Chan) : (purgeReportEvent c s).LeasesOk := by
  unfold purgeReportEvent
  split
  · next he =>
    refine setEnding_leasesOk h ?_ he _
    rfl
  · exact h

theorem leaseEndShareEvent_leasesOk {s : State} (h : s.LeasesOk) (c : Chan) : (leaseEndShareEvent c s).LeasesOk := by
  unfold leaseEndShareEvent
  split
  · next he =>
    refine setEnding_leasesOk h ?_ he _
    rfl
  · exact h

theorem grantStepEvent_leasesOk {s : State} (h : s.LeasesOk) (c : Chan) : (grantStepEvent c s).LeasesOk := by
  unfold grantStepEvent
  split
  · next old clk he =>
    exact ((h.congr (t := s.hear .leases clk) rfl).grantStep (resOf c)).congr (by simp)
  · exact h

theorem holder_of_contested {s : State} {r : ResId} (h : s.contested r = true) : (s.lease r).holder.isSome := by
  simp only [State.contested, Bool.and_eq_true] at h
  exact h.1.1.1

theorem claimRequest_leasesOk {s : State} (h : s.LeasesOk) (p : Port) (payload : List Byte) :
    (claimRequest p payload s).1.LeasesOk := by
  unfold claimRequest
  split
  · exact h
  next r hold wait _ =>
  dsimp only
  split
  · exact h
  next stranger =>
  obtain ⟨out, queue⟩ := not_or.1 stranger
  have queue : ∀ d ∈ (s.lease r).queue, d.port ≠ p := by simpa using queue
  split
  · next free =>
    simp only [Lease.free, Bool.and_eq_true, Option.isNone_iff_eq_none, List.isEmpty_iff] at free
    obtain ⟨⟨hh, he⟩, hq⟩ := free
    exact h.setLease (.claimed he hq _ _ _) fun _ => he
  · next taken =>
    have queued := (h.each r).queued (c := ⟨p, hold, wait, s.tb.wallTime⟩) out queue (eq_false_of_ne_true taken)
    have first := h.setLease queued (r := r) fun e => e ▸ h.timeline
    unfold queueClaim
    dsimp only
    split
    · next contested =>
      exact first.setLease ((first.each r).setRevoke (holder_of_contested contested)) fun e => e ▸ first.timeline
    · exact first

theorem releaseRequest_leasesOk {s : State} (h : s.LeasesOk) (p : Port) (payload : List Byte) :
    (releaseRequest p payload s).1.LeasesOk := by
  unfold releaseRequest
  split
  · exact h
  next r _ =>
  dsimp only
  split
  · exact endLease_leasesOk h r _ _
  · split
    · exact h.setLease ((h.each r).withoutPort p) fun e => e ▸ h.timeline
    · exact h

theorem holdLimitExpiryEvent_leasesOk {s : State} (h : s.LeasesOk) (r : ResId) : (holdLimitExpiryEvent r s).LeasesOk := by
  unfold holdLimitExpiryEvent
  split
  · next contested => exact h.setLease ((h.each r).setRevoke (holder_of_contested contested)) fun e => e ▸ h.timeline
  · exact h

theorem revocationEvent_leasesOk {s : State} (h : s.LeasesOk) (r : ResId) : (revocationEvent r s).LeasesOk := by
  unfold revocationEvent
  split
  · have cleared := h.setLease (r := r) (h.each r).clearRevoke fun e => e ▸ h.timeline
    dsimp only
    split
    · split
      · exact endLease_leasesOk (cleared.congr (State.post_leases ..)) r _ _
      · exact cleared
    · exact cleared
  · exact h

theorem waitLimitExpiryEvent_leasesOk {s : State} (h : s.LeasesOk) (r : ResId) (p : Port) :
    (waitLimitExpiryEvent r p s).LeasesOk := by
  unfold waitLimitExpiryEvent
  split
  · exact h
  · split
    · have withdrawn := h.setLease (r := r) ((h.each r).withoutPort p) fun e => e ▸ h.timeline
      exact withdrawn.congr (State.post_leases ..)
    · exact h

/-- A change of every record that keeps each one, and T's lease end, keeps the table. -/
theorem mapLeases_leasesOk {s : State} (h : s.LeasesOk) {f : ResId → Lease → Lease} (each : ∀ r x, x.Ok → (f r x).Ok)
    (ending : ∀ r x, x.ending = none → (f r x).ending = none) :
    ({ s with leases := mapRecords s.leases f } : State).LeasesOk where
  each r := by
    have : ({ s with leases := mapRecords s.leases f } : State).lease r = f r (s.lease r) := mapRecords_get ..
    exact this ▸ each r _ (h.each r)
  timeline := by
    have : ({ s with leases := mapRecords s.leases f } : State).lease timeline = f timeline (s.lease timeline) :=
      mapRecords_get ..
    exact this ▸ ending _ _ h.timeline

theorem endLeases_leasesOk {s : State} (h : s.LeasesOk) (p : Port) (rs : List ResId) :
    (rs.foldl (endLeaseOf p) s).LeasesOk := by
  induction rs generalizing s with
  | nil => exact h
  | cons r rs ih =>
    refine ih (s := endLeaseOf p s r) ?_
    unfold endLeaseOf
    split
    · exact endLease_leasesOk h r _ _
    · exact h

theorem stampPurges_leasesOk {s : State} (h : s.LeasesOk) (p : Port) : (s.stampPurges p).LeasesOk :=
  mapLeases_leasesOk h (fun _ _ hx => hx.stampPurge p _) fun r x hx => by rw [Lease.stampPurge_of_none hx, hx]

theorem leaseTeardownEvent_leasesOk {s : State} (h : s.LeasesOk) (p : Port) : (leaseTeardownEvent p s).LeasesOk := by
  unfold leaseTeardownEvent
  split
  · next clk _ =>
    have withdrawn := mapLeases_leasesOk (s := s.hear .leases clk) (h.congr rfl)
      (f := fun _ x => { x with queue := withoutPort p x.queue }) (fun _ _ hx => hx.withoutPort p) (fun _ _ hx => hx)
    exact (stampPurges_leasesOk (endLeases_leasesOk withdrawn p (List.finRange 17)) p).congr (by simp)
  · exact h

/-! ### Every step keeps the leases -/

theorem reset_lease (r : ResId) : State.reset.lease r = {} := Vector.getElem_replicate r.isLt

theorem reset_leasesOk : State.reset.LeasesOk where
  each r := reset_lease r ▸ .vacant (x := {})
  timeline := by rw [reset_lease]

theorem exec_leasesOk {i : Instr} {s t : State} (h : exec i s = .next t) (hs : s.LeasesOk) : t.LeasesOk := by
  cases i <;> obtain rfl := Host.Outcome.next.inj h
  case resetEntry n => rcases resetEntry_eq n s with e | e <;> rw [e]; exacts [hs, reset_leasesOk.congr rfl]
  case resetRelease pins => rcases resetRelease_eq pins s with e | e <;> rw [e]; exacts [hs, reset_leasesOk.congr rfl]
  case powerApplied => exact reset_leasesOk.congr rfl
  case claim p =>
    exact takeRequest_induct (P := State.LeasesOk) (fun _ _ _ h => h.congr (by simp)) (fun _ _ h => h.congr rfl)
      (fun x _ h => claimRequest_leasesOk h p x) hs
  case release p =>
    exact takeRequest_induct (P := State.LeasesOk) (fun _ _ _ h => h.congr (by simp)) (fun _ _ h => h.congr rfl)
      (fun x _ h => releaseRequest_leasesOk h p x) hs
  case leaseEndPurge c => exact leaseEndPurgeEvent_leasesOk hs c
  case purgeReport c => exact purgeReportEvent_leasesOk hs c
  case leaseEndShare c => exact leaseEndShareEvent_leasesOk hs c
  case grantStep c => exact grantStepEvent_leasesOk hs c
  case holdLimitExpiry r => exact holdLimitExpiryEvent_leasesOk hs r
  case revocation r => exact revocationEvent_leasesOk hs r
  case waitLimitExpiry r p => exact waitLimitExpiryEvent_leasesOk hs r p
  case leaseTeardown p => exact leaseTeardownEvent_leasesOk hs p
  all_goals exact hs.congr (by simp [takeScheduleRequest, apply_ite State.leases])

/-- Settles O55: a grant goes to a port that no longer waits, a claim to a port that does not hold, and a lease end leaves no holder. -/
theorem stepKeepsLeases : Obligations.StepKeepsLeases := fun _ _ hs h =>
  step_induct (P := State.LeasesOk) (fun _ _ h => h.congr rfl) (fun s h => h.congr (by simp)) (fun _ _ _ => exec_leasesOk) hs h

end Sys2Proof.Machine
end

section
/-! PROOFS. The Trip Groups: the locks in flight, and what every event keeps of a group's record. -/

namespace Sys2Proof.Machine

/-! ### Locks in flight (R142) -/

theorem length_filter_erase {m : LockMsg} {l : List LockMsg} (hm : m ∈ l) (f : LockMsg → Bool) :
    (l.filter f).length = ((l.erase m).filter f).length + if f m then 1 else 0 := by
  rw [((List.perm_cons_erase hm).filter f).length_eq, List.filter_cons]
  split <;> rfl

theorem lockMsgsTo_filter (g g' : GroupId) (lock : Bool) (cs : ChanSet) (clk : Clock) :
    (lockMsgsTo g lock cs clk).filter (fun m => m.lock && m.group == g') =
      if lock = true ∧ g = g' then lockMsgsTo g lock cs clk else [] := by
  split
  · next h => simp [lockMsgsTo, h]
  · next h => 
    refine List.filter_eq_nil_iff.2 fun m hm => ?_
    obtain ⟨c, -, rfl⟩ := List.mem_map.1 hm
    simpa using h

/-- Locks handed by a group are in flight for that group alone, and unlocks for none. -/
theorem inFlight_append (l : List LockMsg) (g g' : GroupId) (lock : Bool) (cs : ChanSet) (clk : Clock) :
    ((l ++ lockMsgsTo g lock cs clk).filter fun m => m.lock && m.group == g').length =
      (l.filter fun m => m.lock && m.group == g').length + if lock = true ∧ g = g' then (chansOf cs).length else 0 := by
  rw [List.filter_append, List.length_append, lockMsgsTo_filter]
  split
  · simp [lockMsgsTo]
  · rfl

theorem nextLockMsg_some {s : State} {c : Chan} {g : GroupId} {m : LockMsg} (h : s.nextLockMsg c g = some m) :
    m ∈ s.lockMsgs ∧ m.chan = c ∧ m.group = g := by
  have := List.find?_some h
  simp only [Bool.and_eq_true, beq_iff_eq] at this
  exact ⟨List.mem_of_find?_eq_some h, this⟩

theorem length_chansOf_le (cs : ChanSet) : (chansOf cs).length ≤ 16 :=
  (List.length_filter_le _ _).trans_eq (List.length_finRange ..)

/-! ### What a group's record must be -/

/-- A group's record with a number of its locks in flight (R135, R137, R142). -/
structure Group.OkWith (x : Group) (inFlight : Nat) : Prop where
  locks : x.locksOut = inFlight + x.reports.length
  atMost : x.locksOut ≤ 16
  armed : x.state = .armed → x.sources ≠ 0 ∧ x.channels ≠ 0 ∧ x.locksOut = 0
  tripped : x.state = .tripped → x.last.isSome

theorem groupOk_iff {s : State} {g : GroupId} : s.GroupOk g ↔ (s.group g).OkWith (s.locksInFlight g) :=
  ⟨fun ⟨a, b, c, d⟩ => ⟨a, b, c, d⟩, fun ⟨a, b, c, d⟩ => ⟨a, b, c, d⟩⟩

/-- Every group's record is accounted for. -/
def State.GroupsOk (s : State) : Prop := ∀ g, s.GroupOk g

theorem State.GroupsOk.congr {s t : State} (h : s.GroupsOk) (hg : t.groups = s.groups) (hl : t.lockMsgs = s.lockMsgs) :
    t.GroupsOk := by
  intro g
  have same : t.group g = s.group g := congrArg (·[g]) hg
  have flight : t.locksInFlight g = s.locksInFlight g := by rw [State.locksInFlight, State.locksInFlight, hl]
  rw [groupOk_iff, same, flight]
  exact groupOk_iff.1 (h g)

/-- One group's record and its locks change together, and the other groups keep theirs. -/
theorem State.GroupsOk.setGroup {s t : State} (h : s.GroupsOk) {g : GroupId} {x : Group}
    (hg : t.groups = (s.setGroup g x).groups) (others : ∀ g', g' ≠ g → t.locksInFlight g' = s.locksInFlight g')
    (hx : x.OkWith (t.locksInFlight g)) : t.GroupsOk := by
  intro g'
  have same : t.group g' = (s.setGroup g x).group g' := congrArg (·[g']) hg
  rw [groupOk_iff, same, State.group_setGroup]
  split
  · next e => exact e ▸ hx
  · next e =>
    rw [others g' fun h => e h.symm]
    exact groupOk_iff.1 (h g')

namespace Group.OkWith

variable {x : Group} {n : Nat}

theorem setPurges (h : x.OkWith n) (l : List TripPurge) : { x with purges := l }.OkWith n := { h with }

/-- A lock taken is a report to come. -/
theorem reported (h : x.OkWith (n + 1)) (k : Clock) : { x with reports := x.reports ++ [k] }.OkWith n where
  __ := h
  locks := by
    have := h.locks
    simp only [List.length_append, List.length_singleton]
    omega

/-- A report taken is one lock less outstanding. -/
theorem taken (h : x.OkWith n) {k : Clock} {later : List Clock} (hr : x.reports = k :: later) (l : List TripPurge) :
    { x with reports := later, locksOut := x.locksOut - 1, purges := l }.OkWith n := by
  have locks := h.locks
  have atMost := h.atMost
  rw [hr, List.length_cons] at locks
  refine ⟨?_, ?_, fun ha => ?_, h.tripped⟩
  · change x.locksOut - 1 = n + later.length
    omega
  · change x.locksOut - 1 ≤ 16
    omega
  · obtain ⟨hs, hc, h0⟩ := h.armed ha
    exact ⟨hs, hc, by omega⟩

theorem trips (h : x.OkWith n) (ha : x.state = .armed) (last : LineId × Nat) :
    { x with state := .tripped, last := some last, locksOut := (chansOf x.channels).length }.OkWith
      (n + (chansOf x.channels).length) where
  locks := by
    have := h.locks
    have := (h.armed ha).2.2
    simp only
    omega
  atMost := length_chansOf_le _
  armed := nofun
  tripped _ := rfl

theorem config (h : x.OkWith n) (hd : x.state = .disarmed) (sources : LineSet) (active : Level) (channels : ChanSet) :
    { x with sources := sources, active := active, channels := channels, last := none }.OkWith n where
  __ := h
  armed e := by cases hd.symm.trans e
  tripped e := by cases hd.symm.trans e

theorem arms (h : x.OkWith n) (hl : x.locksOut = 0) (hs : x.sources ≠ 0) (hc : x.channels ≠ 0) :
    { x with state := .armed }.OkWith n :=
  { h with armed := fun _ => ⟨hs, hc, hl⟩, tripped := nofun }

theorem disarms (h : x.OkWith n) : { x with state := .disarmed }.OkWith n := { h with armed := nofun, tripped := nofun }

end Group.OkWith

theorem State.GroupsOk.setPurges {s : State} (h : s.GroupsOk) (g : GroupId) (l : List TripPurge) :
    (s.setGroup g { s.group g with purges := l }).GroupsOk :=
  h.setGroup rfl (fun _ _ => rfl) ((groupOk_iff.1 (h g)).setPurges l)

/-! ### The groups' events and requests -/

theorem lockEvent_groupsOk {s : State} (h : s.GroupsOk) (c : Chan) (g : GroupId) : (lockEvent c g s).GroupsOk := by
  unfold lockEvent
  split
  · next m hm =>
    obtain ⟨mem, -, hg⟩ := nextLockMsg_some hm
    split
    · next lock =>
      have flight : ∀ g', s.locksInFlight g' =
          ((s.lockMsgs.erase m).filter fun m => m.lock && m.group == g').length + if g = g' then 1 else 0 := fun g' => by
        rw [State.locksInFlight, length_filter_erase mem]
        simp [lock, hg]
      refine h.setGroup (g := g) rfl (fun g' hne => ?_) ?_
      · rw [flight g', if_neg hne.symm]
        rfl
      · have was := groupOk_iff.1 (h g)
        rw [flight g, if_pos rfl] at was
        exact was.reported _
    · exact h
  · exact h

theorem unlockEvent_groupsOk {s : State} (h : s.GroupsOk) (c : Chan) (g : GroupId) : (unlockEvent c g s).GroupsOk := by
  unfold unlockEvent
  split
  · next m hm =>
    obtain ⟨mem, -, -⟩ := nextLockMsg_some hm
    split
    · exact h
    · next lock =>
      have erased : ({ s with lockMsgs := s.lockMsgs.erase m } : State).GroupsOk := by
        intro g'
        have flight : s.locksInFlight g' = ((s.lockMsgs.erase m).filter fun m => m.lock && m.group == g').length := by
          rw [State.locksInFlight, length_filter_erase mem]
          simp [lock]
        have was := groupOk_iff.1 (h g')
        rw [flight] at was
        exact groupOk_iff.2 was
      dsimp only
      split
      · exact erased.congr (by simp) (by simp)
      · exact erased.congr rfl rfl
  · exact h

theorem tripGroup_groupsOk {s : State} (h : s.GroupsOk) {g : GroupId} (ha : (s.group g).state = .armed) (i : LineId) :
    (tripGroup g i s).GroupsOk := by
  have flight : ∀ g', (tripGroup g i s).locksInFlight g' =
      s.locksInFlight g' + if g = g' then (chansOf (s.group g).channels).length else 0 := fun g' => by
    simp only [State.locksInFlight, tripGroup, inFlight_append]
    simp
  refine h.setGroup (g := g) (by simp [tripGroup]; rfl) (fun g' hne => ?_) ?_
  · rw [flight, if_neg hne.symm, Nat.add_zero]
  · rw [flight, if_pos rfl]
    exact (groupOk_iff.1 (h g)).trips ha _

theorem groupLineChangeEvent_groupsOk {s : State} (h : s.GroupsOk) (g : GroupId) (i : LineId) :
    (groupLineChangeEvent g i s).GroupsOk := by
  unfold groupLineChangeEvent
  split
  · exact h
  · dsimp only
    split
    · next trips =>
      simp only [Group.tripsOn, Bool.and_eq_true, beq_iff_eq] at trips
      refine tripGroup_groupsOk ?_ trips.1.1 i
      exact h.congr rfl rfl
    · exact h.congr rfl rfl

theorem lockReportEvent_groupsOk {s : State} (h : s.GroupsOk) (g : GroupId) : (lockReportEvent g s).GroupsOk := by
  unfold lockReportEvent
  split
  · exact h
  · next hr => exact h.setGroup (g := g) rfl (fun _ _ => rfl) ((groupOk_iff.1 (h g)).taken hr _)

theorem tripPurgeEvent_groupsOk {s : State} (h : s.GroupsOk) (g : GroupId) : (tripPurgeEvent g s).GroupsOk := by
  unfold tripPurgeEvent
  split
  · exact h
  · split
    · exact h
    · exact (h.congr (by simp) (by simp)).setPurges g _

theorem tripConfigRequest_groupsOk {s : State} (h : s.GroupsOk) (p : Port) (payload : List Byte) :
    (tripConfigRequest p payload s).1.GroupsOk := by
  unfold tripConfigRequest
  split
  · exact h
  next g sources active channels _ =>
  split
  · split
    · exact h
    next disarmed =>
    split
    · exact h
    · exact h.setGroup (g := g) rfl (fun _ _ => rfl) ((groupOk_iff.1 (h g)).config (Decidable.not_not.1 disarmed) _ _ _)
  · exact h

/-- Unlocks are no locks in flight. -/
theorem leaveTripped_groupsOk {s : State} (h : s.GroupsOk) {g : GroupId} {state : GroupState}
    (hx : { s.group g with state := state }.OkWith (s.locksInFlight g)) : (leaveTripped g state s).GroupsOk := by
  unfold leaveTripped
  dsimp only
  split
  · have flight : ∀ g' clk, ((s.lockMsgs ++ lockMsgsTo g false (s.group g).channels clk).filter
        fun m => m.lock && m.group == g').length = s.locksInFlight g' := fun g' clk => by
      rw [inFlight_append]
      rfl
    refine h.setGroup (g := g) rfl (fun g' _ => flight g' _) ?_
    exact (congrArg _ (flight g (s.clock .groups))).mpr hx
  · exact h.setGroup (g := g) rfl (fun _ _ => rfl) hx

theorem armRequest_groupsOk {s : State} (h : s.GroupsOk) (p : Port) (payload : List Byte) :
    (armRequest p payload s).1.GroupsOk := by
  unfold armRequest
  split
  · exact h
  next g _ =>
  dsimp only
  split
  · split
    · exact h
    next locks =>
    split
    · exact h
    split
    · exact h
    next set =>
    split
    · exact h
    · obtain ⟨hs, hc⟩ := not_or.1 set
      exact leaveTripped_groupsOk h ((groupOk_iff.1 (h g)).arms (Decidable.not_not.1 locks) hs hc)
  · exact h

theorem disarmRequest_groupsOk {s : State} (h : s.GroupsOk) (p : Port) (payload : List Byte) :
    (disarmRequest p payload s).1.GroupsOk := by
  unfold disarmRequest
  split
  · exact h
  · split
    · exact leaveTripped_groupsOk h (groupOk_iff.1 (h _)).disarms
    · exact h

/-! ### Every step keeps the groups -/

theorem reset_group (g : GroupId) : State.reset.group g = {} := Vector.getElem_replicate g.isLt

theorem reset_groupsOk : State.reset.GroupsOk := fun g => by
  rw [groupOk_iff, reset_group]
  exact ⟨rfl, Nat.zero_le _, nofun, nofun⟩

theorem exec_groupsOk {i : Instr} {s t : State} (h : exec i s = .next t) (hs : s.GroupsOk) : t.GroupsOk := by
  cases i <;> obtain rfl := Host.Outcome.next.inj h
  case resetEntry n => rcases resetEntry_eq n s with e | e <;> rw [e]; exacts [hs, reset_groupsOk.congr rfl rfl]
  case resetRelease pins => rcases resetRelease_eq pins s with e | e <;> rw [e]; exacts [hs, reset_groupsOk.congr rfl rfl]
  case powerApplied => exact reset_groupsOk.congr rfl rfl
  case tripConfig p =>
    exact takeRequest_induct (P := State.GroupsOk) (fun _ _ _ h => h.congr (by simp) (by simp)) (fun _ _ h => h.congr rfl rfl)
      (fun x _ h => tripConfigRequest_groupsOk h p x) hs
  case arm p =>
    exact takeRequest_induct (P := State.GroupsOk) (fun _ _ _ h => h.congr (by simp) (by simp)) (fun _ _ h => h.congr rfl rfl)
      (fun x _ h => armRequest_groupsOk h p x) hs
  case disarm p =>
    exact takeRequest_induct (P := State.GroupsOk) (fun _ _ _ h => h.congr (by simp) (by simp)) (fun _ _ h => h.congr rfl rfl)
      (fun x _ h => disarmRequest_groupsOk h p x) hs
  case groupLineChange g i => exact groupLineChangeEvent_groupsOk hs g i
  case lock c g => exact lockEvent_groupsOk hs c g
  case unlock c g => exact unlockEvent_groupsOk hs c g
  case lockReport g => exact lockReportEvent_groupsOk hs g
  case tripPurge g => exact tripPurgeEvent_groupsOk hs g
  all_goals
    exact hs.congr (by simp [takeScheduleRequest, apply_ite State.groups])
      (by simp [takeScheduleRequest, apply_ite State.lockMsgs])

/-- Settles O57: a lock outstanding is in flight or a report to come, and only DISARM and the checks of ARM end a trip. -/
theorem stepKeepsGroups : Obligations.StepKeepsGroups := fun _ _ hs h =>
  step_induct (P := State.GroupsOk) (fun _ _ h => h.congr rfl rfl) (fun s h => h.congr (by simp) (by simp))
    (fun _ _ _ => exec_groupsOk) hs h

end Sys2Proof.Machine
end

section
/-! PROOFS. The Master Ports: what every event keeps of a port's queues, session and teardown. -/

namespace Sys2Proof.Machine

/-! ### The parts of a teardown (R165, R166) -/

namespace Parts

theorem outstanding_eq (x : Parts) : x.outstanding =
    (if x.schedule = .idle then 0 else 1) + (if x.leases = .idle then 0 else 1) + (if x.journal = .idle then 0 else 1)
      + (if x.notices = .idle then 0 else 1) := by
  simp only [Parts.outstanding, List.filter_cons, List.filter_nil, bne_iff_ne, ne_eq, ite_not]
  split <;> split <;> split <;> split <;> rfl

/-- A part reported is one part less outstanding when the port has taken its report. -/
theorem outstanding_clear {x : Parts} {b : PartBlock} {clk : Clock} (h : x.get b = .reported clk) :
    (x.clear b).outstanding + 1 = x.outstanding := by
  cases b <;> simp only [Parts.get] at h <;> simp [outstanding_eq, Parts.clear, h] <;> omega

end Parts

/-! ### What a port's record must be -/

namespace PortRec.Ok

variable {x : PortRec}

theorem partsOut_zero (h : x.Ok) (hs : x.session ≠ .closing) : x.partsOut = 0 :=
  Nat.eq_zero_of_not_pos fun hp => hs (h.teardown hp)

/-- A request in hand that is not a waiting DETACH is there only while no part of a teardown is outstanding. -/
theorem partsOut_zero_of_inHand (h : x.Ok) {i : InHand} (hi : x.inHand = some i) (hs : i.stage ≠ .detaching) :
    x.partsOut = 0 :=
  Nat.eq_zero_of_not_pos fun hp => hs (h.closed hp i hi)

theorem cause_none (h : x.Ok) (hs : x.session ≠ .closing) : x.cause = none :=
  Option.not_isSome_iff_eq_none.1 fun hc => hs (h.cause.1 hc)

/-- The pin, the transaction and the flags are no part of it. -/
theorem setPin (h : x.Ok) (cs : Bool) (t : Option Transaction) : { x with csLow := cs, txn := t }.Ok := { h with }

theorem setFlags (h : x.Ok) (crc discard : Bool) : { x with crcErr := crc, discard := discard }.Ok := { h with }

theorem dropReply (h : x.Ok) : { x with replies := x.replies.tail }.Ok where
  __ := h
  replies := by
    have := h.replies
    simp only [PortRec.slots, List.length_tail] at this ⊢
    omega

theorem addRequest (h : x.Ok) (hl : x.requests.length < Config.queueDepth) (hs : x.session ≠ .closing) (f : Frame) :
    { x with requests := x.requests ++ [f] }.Ok where
  __ := h
  requests := by simpa using hl
  flushed e := absurd e hs

theorem setActivity (h : x.Ok) (wall : Nat) : { x with lastActivity := wall }.Ok := { h with }

theorem renewed (h : x.Ok) (wall : Nat) : (x.renewed wall).Ok := by
  unfold PortRec.renewed
  split
  · exact h.setActivity wall
  · exact h

theorem takeRequest (h : x.Ok) {f : Frame} {later : List Frame} (hr : x.requests = f :: later)
    (hs : x.session ≠ .closing) : { x with requests := later }.Ok where
  __ := h
  requests := by
    have := h.requests
    rw [hr, List.length_cons] at this
    exact (Nat.le_succ _).trans this
  flushed e := absurd e hs

theorem addReply (h : x.Ok) (hi : x.inHand = none) (hl : x.replies.length < Config.queueDepth) (r : Reply) :
    { x with replies := x.replies ++ [r] }.Ok where
  __ := h
  replies := by simpa [PortRec.slots, hi] using hl

theorem setInHand (h : x.Ok) (hl : x.slots ≤ Config.queueDepth → x.replies.length < Config.queueDepth) {i : InHand}
    (hs : i.stage ≠ .detaching) (hp : x.partsOut = 0) :
    { x with inHand := some i }.Ok where
  __ := h
  replies := hl h.replies
  waiting hc h0 := ⟨(h.waiting hc h0).1, i, rfl, hs⟩
  detaching j hj hd := by cases hj; exact absurd hd hs
  closed hp' := absurd hp (Nat.pos_iff_ne_zero.1 hp')
  answered _ := rfl

/-- The block's answer replaces the request in hand. -/
theorem answer (h : x.Ok) {f : Frame} {clk : Clock} (hi : x.inHand = some ⟨f, .handed clk⟩) (a : Answer) (k : Clock) :
    { x with inHand := some ⟨f, .answered a k⟩ }.Ok :=
  h.setInHand (fun hl => by simp only [PortRec.slots, hi] at hl; exact hl) nofun
    (h.partsOut_zero_of_inHand hi nofun)

/-- The parts of a teardown are handed in a CLOSING port that waits for nothing else. -/
theorem handParts (hr : x.requests = []) (hl : x.slots ≤ Config.queueDepth) (ht : x.term.isSome)
    (htr : ∀ n, x.term = some n → Config.minTerm ≤ n ∧ n ≤ Config.max24) (hs : x.session = .closing) (hc : x.cause.isSome)
    (hd : ∀ i, x.inHand = some i → i.stage = .detaching) (ha : x.cause = some .detach → x.inHand.isSome) (clk : Clock) :
    (x.handParts clk).Ok where
  requests := by simp [PortRec.handParts, hr]
  replies := hl
  term := by simp [PortRec.handParts, hs, ht]
  termRange := htr
  cause := by simp [PortRec.handParts, hs, hc]
  flushed _ := hr
  parts := rfl
  teardown _ := hs
  waiting _ := nofun
  detaching _ _ _ := Nat.succ_pos _
  closed _ := hd
  answered := ha

theorem setParts (h : x.Ok) {y : Parts} (hy : y.outstanding = x.parts.outstanding) : { x with parts := y }.Ok :=
  { h with parts := h.parts.trans hy.symm }

/-- A report taken that is not the last. -/
theorem report (h : x.Ok) {b : PartBlock} {clk : Clock} (hb : x.parts.get b = .reported clk) (hn : x.partsOut - 1 ≠ 0) :
    { x with parts := x.parts.clear b, partsOut := x.partsOut - 1 }.Ok where
  __ := h
  parts := by
    have := Parts.outstanding_clear hb
    have := h.parts
    simp only
    omega
  teardown _ := h.teardown (by omega)
  waiting _ h0 := absurd h0 hn
  detaching _ _ _ := Nat.pos_of_ne_zero hn
  closed _ := h.closed (by omega)

/-- The last report ends the teardown. -/
theorem finish (h : x.Ok) {b : PartBlock} {clk : Clock} (hb : x.parts.get b = .reported clk) (h0 : x.partsOut - 1 = 0) :
    ({ x with parts := x.parts.clear b, partsOut := x.partsOut - 1 } : PortRec).finishTeardown.Ok := by
  have cleared : (x.parts.clear b).outstanding = 0 := by
    have := Parts.outstanding_clear hb
    have := h.parts
    omega
  have slots := h.replies
  unfold PortRec.finishTeardown
  dsimp only
  split
  · exact ⟨h.requests, Nat.zero_le _, by simp, nofun, by simp, nofun, cleared.symm, nofun, nofun, nofun, nofun, nofun⟩
  · refine ⟨h.requests, ?_, by simp, nofun, by simp, nofun, cleared.symm, nofun, nofun, nofun, nofun, nofun⟩
    cases hi : x.inHand <;> simpa [PortRec.slots, hi] using slots

theorem attach (h : x.Ok) (hs : x.session = .idle) {term : Nat} (ht : Config.minTerm ≤ term ∧ term ≤ Config.max24)
    (wall sessions : Nat) : { x with
      session := .opened, term := some term, lastActivity := wall, lapsed := false, resetFlag := false,
      sessions := sessions }.Ok where
  __ := h
  term := by simp
  termRange := by rintro _ ⟨⟩; exact ht
  cause := by simp [h.cause_none (by simp [hs])]
  flushed := nofun
  teardown hp := absurd (h.partsOut_zero (by simp [hs])) (Nat.pos_iff_ne_zero.1 hp)
  waiting := nofun

/-- A port whose DETACH is in hand, or that lapses with nothing or a DETACH in hand, hands the parts. -/
theorem closeAndHand (h : x.Ok) (hs : x.session = .opened) (cause : CloseCause) {i : Option InHand}
    (hl : i.isSome = x.inHand.isSome) (hd : ∀ j, i = some j → j.stage = .detaching)
    (ha : cause = .detach → i.isSome) (clk : Clock) :
    ({ x.close cause with inHand := i }.handParts clk).Ok := by
  refine handParts (x := { x.close cause with inHand := i }) rfl ?_ (h.term.2 (by simp [hs])) h.termRange rfl rfl hd (fun e => ha (Option.some.inj e)) clk
  have := h.replies
  simp only [PortRec.slots, PortRec.close] at this ⊢
  rwa [hl]

/-- A lapse with a request in hand that has still to be answered. -/
theorem closeAndWait (h : x.Ok) (hs : x.session = .opened) {i : InHand} (hi : x.inHand = some i) :
    (x.close .lapsed).Ok := by
  have h0 := h.partsOut_zero (by simp [hs])
  refine ⟨Nat.zero_le _, h.replies, ?_, h.termRange, by simp [PortRec.close], fun _ => rfl, h.parts, fun _ => rfl, fun _ _ => ?_,
    h.detaching, h.closed, nofun⟩
  · have := h.term
    simpa [PortRec.close, hs] using this
  · refine ⟨rfl, i, hi, fun hd => ?_⟩
    have := h.detaching i hi hd
    omega

theorem judge (h : x.Ok) (f : Frame) (crcRight : Bool) : (x.judge f crcRight).Ok := by
  unfold PortRec.judge
  split
  · next ha =>
    simp only [PortRec.accepts, Bool.and_eq_true, decide_eq_true_eq, bne_iff_ne] at ha
    exact (h.addRequest ha.1.2 ha.2 f).setFlags false false
  · exact h.setFlags _ true

theorem discarded (h : x.Ok) : x.discarded.Ok := { h with }

theorem markJudged (h : x.Ok) : x.markJudged.Ok := { h with }

theorem judgeAtEnd (h : x.Ok) (t : Transaction) (bytes : List Byte) : (x.judgeAtEnd t bytes).Ok := by
  unfold PortRec.judgeAtEnd
  split
  · exact h
  · split
    · exact h
    · exact h.discarded
    · exact h.discarded
    · exact h.judge _ _

end PortRec.Ok

/-! ### The ports' events -/

theorem forall_port_setPort {Q : PortRec → Prop} {s : State} {p : Port} {x : PortRec} (h : ∀ q, Q (s.port q)) (hx : Q x)
    (q : Port) : Q ((s.setPort p x).port q) := by
  rw [State.port_setPort]
  split
  · exact hx
  · exact h q

theorem port_congr {s t : State} (h : t.ports = s.ports) (p : Port) : t.port p = s.port p := congrArg (·[p]) h

/-- Every port's record is as it must be. -/
def State.PortsOk (s : State) : Prop := ∀ p, (s.port p).Ok

namespace State.PortsOk

variable {s t : State}

theorem congr (h : s.PortsOk) (ht : t.ports = s.ports) : t.PortsOk := fun p => port_congr ht p ▸ h p

theorem setPort (h : s.PortsOk) {p : Port} {x : PortRec} (hx : x.Ok) : (s.setPort p x).PortsOk :=
  forall_port_setPort (Q := PortRec.Ok) h hx

end State.PortsOk

/-- A request answered by a block that leaves the ports alone. -/
theorem takeRequest_portsOk {k : ReqKind} {agent : Agent} {p : Port} {body : List Byte → State → State × Answer} {s : State}
    (h : s.PortsOk) (hb : ∀ payload t, (body payload t).1.ports = t.ports) : (takeRequest k agent p body s).PortsOk := by
  cases hr : s.handedRequest p k with
  | none =>
    rw [takeRequest_of_none hr]
    exact h
  | some x =>
    obtain ⟨f, hi, -, -⟩ := handedRequest_some.1 hr
    have kept := h.congr (hb x.1 (s.hear agent x.2))
    have hi : ((body x.1 (s.hear agent x.2)).1.port p).inHand = some ⟨f, .handed x.2⟩ := by
      rw [port_congr (hb x.1 (s.hear agent x.2))]
      exact hi
    rw [takeRequest_of_some hr, answer_of_some hi]
    exact kept.setPort ((kept p).answer hi _ _)

theorem attach_portsOk {s : State} (h : s.PortsOk) (p : Port) : (takeRequest .attach (.port p) p (attachRequest p) s).PortsOk := by
  cases hr : s.handedRequest p .attach with
  | none =>
    rw [takeRequest_of_none hr]
    exact h
  | some x =>
    obtain ⟨f, hi, -, -⟩ := handedRequest_some.1 hr
    have kept : (attachRequest p x.1 (s.hear (.port p) x.2)).1.PortsOk ∧
        ((attachRequest p x.1 (s.hear (.port p) x.2)).1.port p).inHand = some ⟨f, .handed x.2⟩ := by
      unfold attachRequest
      split
      · exact ⟨h, hi⟩
      next term ht =>
      have range : Config.minTerm ≤ term ∧ term ≤ Config.max24 := by
        unfold attachTerm at ht
        dsimp only at ht
        split at ht <;> cases ht
        exact ⟨‹_›, Nat.le_of_lt_succ (fieldOf_lt x.1 0 3)⟩
      dsimp only
      split
      · next idle => 
        refine ⟨State.PortsOk.setPort (s := s.hear (.port p) x.2) h ((h p).attach idle range _ _), ?_⟩
        rw [State.port_setPort_self]
        exact hi
      · exact ⟨h, hi⟩
    rw [takeRequest_of_some hr, answer_of_some kept.2]
    exact kept.1.setPort ((kept.1 p).answer kept.2 _ _)

theorem transactionStartEvent_portsOk {s : State} (h : s.PortsOk) (p : Port) : (transactionStartEvent p s).PortsOk := by
  unfold transactionStartEvent
  dsimp only
  split
  · exact h
  · split
    · exact h.setPort ((h p).setPin _ _)
    · exact h.setPort ((h p).setPin _ _)

theorem frameJudgeEvent_portsOk {s : State} (h : s.PortsOk) (p : Port) (bytes : List Byte) :
    (frameJudgeEvent p bytes s).PortsOk := by
  unfold frameJudgeEvent
  dsimp only
  split
  · split
    · exact h
    · exact h
    · exact h.setPort (h p).discarded.markJudged
    · exact h.setPort ((h p).judge _ _).markJudged
  · exact h

theorem transactionEndEvent_portsOk {s : State} (h : s.PortsOk) (p : Port) (bytes : List Byte) :
    (transactionEndEvent p bytes s).PortsOk := by
  unfold transactionEndEvent
  dsimp only
  split
  · split
    · exact h.setPort { h p with }
    · next t _ =>
      have judged := (h p).judgeAtEnd t bytes
      split
      · exact h.setPort (judged.dropReply.setPin false none)
      · exact h.setPort (judged.setPin false none)
  · exact h

theorem renewed_slots (x : PortRec) (wall : Nat) : (x.renewed wall).inHand = x.inHand ∧
    (x.renewed wall).replies = x.replies ∧ (x.renewed wall).partsOut = x.partsOut := by
  unfold PortRec.renewed
  split <;> exact ⟨rfl, rfl, rfl⟩

theorem engineTakeEvent_portsOk {s : State} (h : s.PortsOk) (p : Port) : (engineTakeEvent p s).PortsOk := by
  unfold engineTakeEvent
  dsimp only
  split
  · exact h
  next f later hr =>
  split
  · next ready =>
    simp only [PortRec.engineReady, Bool.and_eq_true, Option.isNone_iff_eq_none, decide_eq_true_eq, bne_iff_ne] at ready
    obtain ⟨⟨hi, hl⟩, hs⟩ := ready
    have taken := ((h p).takeRequest hr hs).renewed s.tb.wallTime
    obtain ⟨hi', hl', hp'⟩ := renewed_slots { s.port p with requests := later } s.tb.wallTime
    have room := hl'.symm ▸ hl
    split
    · exact h.setPort (taken.addReply (hi'.trans hi) room _)
    · exact h.setPort (taken.setInHand (fun _ => room) nofun (hp'.trans ((h p).partsOut_zero hs)))
  · exact h

theorem answerTakenEvent_portsOk {s : State} (h : s.PortsOk) (p : Port) : (answerTakenEvent p s).PortsOk := by
  unfold answerTakenEvent
  split
  · next f a clk hi =>
    have hx := h p
    refine State.PortsOk.setPort (s := s.hear (.port p) clk) h ?_
    rw [State.hear_port]
    have slots : ({ s.port p with replies := (s.port p).replies ++ [f.reply a], inHand := none } : PortRec).slots ≤
        Config.queueDepth := by
      have := hx.replies
      simpa [PortRec.slots, hi] using this
    split
    · next lapsed =>
      refine .handParts (x := { s.port p with replies := _, inHand := none }) (hx.flushed lapsed.1) slots (hx.term.2 (by simp [lapsed.1])) hx.termRange lapsed.1
        (by simp [lapsed.2]) nofun (fun e => ?_) _
      cases lapsed.2.symm.trans e
    · next hn =>
      have h0 := hx.partsOut_zero_of_inHand hi nofun
      have open_ : (s.port p).session ≠ .closing := fun hc => hn ⟨hc, (hx.waiting hc h0).1⟩
      exact { hx with
        replies := slots
        waiting := fun hc => absurd hc open_
        detaching := nofun
        closed := nofun
        answered := fun e => by cases (hx.cause_none open_).symm.trans e }
  · exact h

theorem session_of_isOpen {s : State} {p : Port} (h : s.isOpen p = true) : (s.port p).session = .opened := by
  simpa [State.isOpen, State.session] using h

theorem lapseEvent_portsOk {s : State} (h : s.PortsOk) (p : Port) : (lapseEvent p s).PortsOk := by
  unfold lapseEvent
  split
  · next due =>
    simp only [State.lapseDue, Bool.and_eq_true] at due
    have hs := session_of_isOpen due.1
    dsimp only
    split
    · next hi =>
      exact h.setPort ((h p).closeAndHand hs .lapsed (i := (s.port p).inHand) rfl
        (fun j hj => by cases (show (s.port p).inHand = none from hi).symm.trans hj) nofun _)
    · next i hi =>
      have hi : (s.port p).inHand = some i := hi
      split
      · exact h.setPort ((h p).closeAndHand hs .lapsed (by rw [hi]; rfl) (by rintro _ ⟨⟩; rfl) nofun _)
      · exact h.setPort ((h p).closeAndWait hs hi)
  · exact h

theorem detachEvent_portsOk {s : State} (h : s.PortsOk) (p : Port) : (detachEvent p s).PortsOk := by
  unfold detachEvent
  split
  · next i _ hi =>
    split
    · next hs =>
      exact h.setPort ((h p).closeAndHand (session_of_isOpen hs) .detach (by rw [hi]; rfl) (by rintro _ ⟨⟩; rfl) (fun _ => rfl) _)
    · exact h
  · exact h

theorem teardownReportEvent_portsOk {s : State} (h : s.PortsOk) (p : Port) (b : PartBlock) :
    (teardownReportEvent p b s).PortsOk := by
  unfold teardownReportEvent
  split
  · next clk hb =>
    refine State.PortsOk.setPort (s := s.hear (.port p) clk) h ?_
    rw [State.hear_port]
    dsimp only
    split
    · next h0 => exact (h p).finish hb h0
    · next hn => exact (h p).report hb hn
  · exact h

/-! ### The parts of a teardown at their blocks -/

/-- A block moves its part on while the port waits for it. -/
theorem State.PortsOk.setParts {s v : State} (h : s.PortsOk) (hv : v.ports = s.ports) {p : Port} (y : Parts → Parts)
    (hy : (y (s.port p).parts).outstanding = (s.port p).parts.outstanding) :
    (v.setPort p { v.port p with parts := y (v.port p).parts }).PortsOk :=
  (h.congr hv).setPort (port_congr hv p ▸ (h p).setParts hy)

theorem scheduleTeardownEvent_portsOk {s : State} (h : s.PortsOk) (p : Port) : (scheduleTeardownEvent p s).PortsOk := by
  unfold scheduleTeardownEvent
  split
  · next hp =>
    split
    · exact h
    · refine h.setParts rfl (fun y => { y with schedule := .reported _ }) ?_
      simp [Parts.outstanding_eq, hp]
  · exact h

theorem noticeTeardownEvent_portsOk {s : State} (h : s.PortsOk) (p : Port) : (noticeTeardownEvent p s).PortsOk := by
  unfold noticeTeardownEvent
  split
  · next hp =>
    refine h.setParts rfl (fun y => { y with notices := .reported _ }) ?_
    simp [Parts.outstanding_eq, hp]
  · exact h

theorem journalTeardownEvent_portsOk {s : State} (h : s.PortsOk) (p : Port) : (journalTeardownEvent p s).PortsOk := by
  unfold journalTeardownEvent
  split
  · next clk hp =>
    have kept : (match (s.hear .journal clk).sub p with
        | some _ => storeGap ((s.hear .journal clk).setSub p none)
        | none => s.hear .journal clk).ports = s.ports := by
      split <;> simp
    refine h.setParts kept (fun y => { y with journal := .reported _ }) ?_
    simp [Parts.outstanding_eq, hp]
  · exact h

theorem leasePartCheck_portsOk {s : State} (h : s.PortsOk) (p : Port) : (leasePartCheck p s).PortsOk := by
  unfold leasePartCheck
  split
  · next hp =>
    refine h.setParts rfl (fun y => { y with leases := .reported _ }) ?_
    simp [Parts.outstanding_eq, hp.1]
  · exact h

theorem grantStepEvent_portsOk {s : State} (h : s.PortsOk) (c : Chan) : (grantStepEvent c s).PortsOk := by
  unfold grantStepEvent
  split
  · exact leasePartCheck_portsOk (h.congr (by simp)) _
  · exact h

theorem leaseTeardownEvent_portsOk {s : State} (h : s.PortsOk) (p : Port) : (leaseTeardownEvent p s).PortsOk := by
  unfold leaseTeardownEvent
  split
  · next hp =>
    refine leasePartCheck_portsOk (h.setParts (by simp) (fun y => { y with leases := .working }) ?_) p
    simp [Parts.outstanding_eq, hp]
  · exact h

/-! ### Every step keeps the ports -/

theorem pin_portRec_ok (low : Bool) : ({ csLow := low } : PortRec).Ok := by
  refine ⟨?_, ?_, ?_, ?_, ?_, ?_, ?_, ?_, ?_, ?_, ?_, ?_⟩ <;> simp [PortRec.slots]
  rfl

theorem port_cleared (s : State) (inReset seenLow : Bool) (p : Port) :
    (s.cleared inReset seenLow).port p = { csLow := (s.port p).csLow } := by
  simp [State.cleared, State.port, mapRecords, State.reset]

theorem cleared_portsOk (s : State) (inReset seenLow : Bool) : (s.cleared inReset seenLow).PortsOk := fun p =>
  port_cleared s inReset seenLow p ▸ pin_portRec_ok _

theorem exec_portsOk {i : Instr} {s t : State} (h : exec i s = .next t) (hs : s.PortsOk) : t.PortsOk := by
  cases i <;> obtain rfl := Host.Outcome.next.inj h
  case resetEntry n => rcases resetEntry_eq n s with e | e <;> rw [e]; exacts [hs, cleared_portsOk s true true]
  case resetRelease pins => rcases resetRelease_eq pins s with e | e <;> rw [e]; exacts [hs, (cleared_portsOk s false true).congr rfl]
  case powerApplied => exact cleared_portsOk s true false
  case transactionStart p => exact transactionStartEvent_portsOk hs p
  case frameJudge p bytes => exact frameJudgeEvent_portsOk hs p bytes
  case transactionEnd p bytes => exact transactionEndEvent_portsOk hs p bytes
  case engineTake p => exact engineTakeEvent_portsOk hs p
  case answerTaken p => exact answerTakenEvent_portsOk hs p
  case attach p => exact attach_portsOk hs p
  case detach p => exact detachEvent_portsOk hs p
  case lapse p => exact lapseEvent_portsOk hs p
  case scheduleTeardown p => exact scheduleTeardownEvent_portsOk hs p
  case leaseTeardown p => exact leaseTeardownEvent_portsOk hs p
  case journalTeardown p => exact journalTeardownEvent_portsOk hs p
  case noticeTeardown p => exact noticeTeardownEvent_portsOk hs p
  case teardownReport p b => exact teardownReportEvent_portsOk hs p b
  case grantStep c => exact grantStepEvent_portsOk hs c
  case settime p => 
    split
    · exact hs
    · exact takeRequest_portsOk hs (by simp)
  case submit | cancel | cancelChannel | query | schedule =>
    exact takeScheduleRequest_cases hs fun _ => takeRequest_portsOk hs (by simp)
  case ident | time | pace | setclock | claim | release | leases | channelConfig | channels | lineConfig | lines | tripConfig |
      arm | disarm | trips | subscribe | unsubscribe | read | notices =>
    exact takeRequest_portsOk hs (by simp)
  all_goals exact hs.congr (by simp)

/-- Settles O58: each event of a port, and each block's part of its teardown, keeps the record. -/
theorem stepKeepsPorts : Obligations.StepKeepsPorts := fun _ _ hs h =>
  step_induct (P := State.PortsOk) (fun _ _ h => h.congr rfl) (fun s h => h.congr (by simp)) (fun _ _ _ => exec_portsOk) hs h

end Sys2Proof.Machine
end

section
/-! PROOFS. The Notice Queues: what every event keeps of a queue, and that no block posts a NOTICES_LOST. -/

namespace Sys2Proof.Machine

/-! ### What a queue must be (R171, R175 to R178) -/

@[simp] theorem Notice.countLost_isLost (n : Notice) : n.countLost.isLost = n.isLost := by
  unfold Notice.countLost
  split <;> rfl

namespace NoticeQueue.Ok

variable {x : NoticeQueue}

theorem setLatch (h : x.Ok) (l : Bool) : { x with latch := l }.Ok := { h with }

theorem empty (l : Bool) : ({ notices := [], latch := l } : NoticeQueue).Ok := ⟨Nat.zero_le _, nofun, nofun, nofun⟩

/-- Without a NOTICES_LOST there are 15 notices at most. -/
theorem length_le_of_none (h : x.Ok) (hn : ∀ n ∈ x.notices, n.isLost = false) : x.notices.length ≤ Config.noticeRoom := by
  by_contra hl
  obtain ⟨n, hm, hlost⟩ := h.room (Nat.lt_of_not_le hl)
  cases (hn n hm).symm.trans hlost

theorem store (hn : ∀ n ∈ x.notices, n.isLost = false) (hl : x.notices.length < Config.noticeRoom) {n : Notice}
    (new : n.isLost = false) : { x with notices := x.notices ++ [n] }.Ok where
  length := by simpa using Nat.le_succ_of_le hl
  last := by simpa using hn
  room hr := by
    simp only [List.length_append, List.length_singleton] at hr
    omega
  count m hm hlost := by
    rcases List.mem_append.1 hm with hm | hm
    · cases (hn m hm).symm.trans hlost
    · cases (List.mem_singleton.1 hm ▸ new).symm.trans hlost

theorem storeLost (h : x.Ok) (hn : ∀ n ∈ x.notices, n.isLost = false) (stamp : Nat) :
    { x with notices := x.notices ++ [(⟨.noticesLost, 0, 1, stamp⟩ : Notice)] }.Ok where
  length := by simpa using h.length_le_of_none hn
  last := by simpa using hn
  room _ := ⟨⟨.noticesLost, 0, 1, stamp⟩, List.mem_append_right _ (.head _), rfl⟩
  count m hm hlost := by
    rcases List.mem_append.1 hm with hm | hm
    · cases (hn m hm).symm.trans hlost
    · rw [List.mem_singleton.1 hm]
      exact ⟨le_rfl, Nat.succ_pos _⟩

theorem countLost (h : x.Ok) : { x with notices := x.notices.map Notice.countLost }.Ok where
  length := by simpa using h.length
  last n hm := by
    have hm : n ∈ (x.notices.map Notice.countLost).dropLast := hm
    rw [← List.map_dropLast] at hm
    obtain ⟨m, old, rfl⟩ := List.mem_map.1 hm
    rw [Notice.countLost_isLost]
    exact h.last m old
  room hr := by
    obtain ⟨n, hm, hlost⟩ := h.room (by simpa using hr)
    exact ⟨n.countLost, List.mem_map_of_mem hm, by rwa [Notice.countLost_isLost]⟩
  count n hm hlost := by
    obtain ⟨m, -, rfl⟩ := List.mem_map.1 hm
    rw [Notice.countLost_isLost] at hlost
    rw [Notice.countLost, if_pos hlost]
    exact ⟨le_min (Nat.succ_pos _) (by decide), Nat.min_le_right _ _⟩

theorem take (h : x.Ok) {n : Notice} (hn : n.isLost = false) : (x.take n).Ok := by
  unfold NoticeQueue.take
  split
  · exact h.countLost
  next none =>
  have none : ∀ m ∈ x.notices, m.isLost = false := by simpa using none
  split
  · next room => exact store none room hn
  · exact h.storeLost none n.stamp

/-- Notices leave from the front, a NOTICES_LOST last of all. -/
theorem drop (h : x.Ok) (n : Nat) : { x with notices := x.notices.drop n }.Ok where
  length := by
    have := h.length
    simp only [List.length_drop]
    omega
  last m hm := h.last m (List.mem_of_mem_drop (i := n) (by rwa [← List.dropLast_drop_eq_drop_dropLast]))
  room hr := by
    have := h.length
    simp only [List.length_drop] at hr ⊢
    have hn : n = 0 := by omega
    subst hn
    exact h.room hr
  count m hm := h.count m (List.mem_of_mem_drop hm)

end NoticeQueue.Ok

/-! ### Posts (9.4) -/

namespace State.NoticesOk

variable {s t : State}

theorem congr (h : s.NoticesOk) (hq : t.queues = s.queues) (hp : t.posts = s.posts) : t.NoticesOk where
  queues p := by
    have same : t.queue p = s.queue p := congrArg (·[p]) hq
    exact same ▸ h.queues p
  posts x hx := h.posts x (hp ▸ hx)

theorem setQueue (h : s.NoticesOk) {p : Port} {x : NoticeQueue} (hx : x.Ok) : (s.setQueue p x).NoticesOk where
  queues q := by
    rw [State.queue_setQueue]
    split
    · exact hx
    · exact h.queues q
  posts := h.posts

theorem post (h : s.NoticesOk) (b : PostBlock) (p : Port) {n : Notice} (hn : n.isLost = false) : (s.post b p n).NoticesOk where
  queues := h.queues
  posts x hx := by
    rcases List.mem_append.1 hx with hx | hx
    · exact h.posts x hx
    · rw [List.mem_singleton.1 hx]
      exact hn

theorem postEach (h : s.NoticesOk) (b : PostBlock) {n : Notice} (hn : n.isLost = false) (ps : List Port) :
    (s.postEach b n ps).NoticesOk := by
  unfold State.postEach
  induction ps generalizing s with
  | nil => exact h
  | cons p ps ih => exact ih (h.post b p hn)

theorem hear (h : s.NoticesOk) (a : Agent) (k : Clock) : (s.hear a k).NoticesOk := h.congr rfl rfl

end State.NoticesOk

/-! ### The blocks' events -/

theorem paceRequest_noticesOk {s : State} (h : s.NoticesOk) (p : Port) (payload : List Byte) :
    (paceRequest p payload s).1.NoticesOk := by
  unfold paceRequest
  split
  · exact h
  split
  · split
    · exact h
    · dsimp only
      split
      · exact h.congr rfl rfl
      · refine State.NoticesOk.postEach ?_ _ rfl _
        exact h.congr rfl rfl
  · exact h

theorem stepBoundaryEvent_noticesOk {s : State} (h : s.NoticesOk) : (stepBoundaryEvent s).NoticesOk := by
  unfold stepBoundaryEvent
  split
  · split
    · exact h.congr rfl rfl
    · refine State.NoticesOk.postEach ?_ _ rfl _
      exact h.congr rfl rfl
  · exact h

theorem timeEndEvent_noticesOk {s : State} (h : s.NoticesOk) : (timeEndEvent s).NoticesOk := by
  unfold timeEndEvent
  split
  · refine State.NoticesOk.postEach (State.NoticesOk.postEach ?_ _ rfl _) _ rfl _
    exact h.congr rfl rfl
  · exact h

theorem firedNotice_isLost {t : Nat} {e : Entry} {n : Notice} (h : firedNotice t e = some n) : n.isLost = false := by
  unfold firedNotice at h
  split at h
  · split at h <;> cases h
    rfl
  · cases h
    rfl

theorem postOutcome_noticesOk {s : State} (h : s.NoticesOk) (e : Entry) {n : Option Notice}
    (hn : ∀ m, n = some m → m.isLost = false) : (s.postOutcome e n).NoticesOk := by
  cases n with
  | none => exact h
  | some n => exact h.post _ _ (hn n rfl)

theorem takeEntry_noticesOk {s : State} (h : s.NoticesOk) (w : Work) (e : Entry) (rest : List Entry) :
    (takeEntry w e rest s).NoticesOk := by
  unfold takeEntry
  split
  · split
    · exact (postOutcome_noticesOk h e fun _ => firedNotice_isLost).congr rfl rfl
    · exact h.congr rfl rfl
  · exact (h.post .schedule e.owner (n := ⟨.skipped, e.tag, lateness w.time e, w.time⟩) rfl).congr rfl rfl

theorem takeEntries_noticesOk {s : State} (h : s.NoticesOk) (n : Nat) : (takeEntries n s).NoticesOk := by
  induction n generalizing s with
  | zero => exact h
  | succ n ih =>
    unfold takeEntries
    split
    · exact h
    · split
      · exact ih (takeEntry_noticesOk h _ _ _)
      · exact h

theorem postDropped_noticesOk {s : State} (h : s.NoticesOk) (why : DropReason) (l : List Entry) :
    (s.postDropped why l).NoticesOk := by
  unfold State.postDropped
  generalize s.tb.machTime = now
  induction l generalizing s with
  | nil => exact h
  | cons e l ih => exact ih (h.post .schedule e.owner (n := droppedNotice e.tag why now) rfl)

theorem leaseEndPurgeEvent_noticesOk {s : State} (h : s.NoticesOk) (c : Chan) : (leaseEndPurgeEvent c s).NoticesOk := by
  unfold leaseEndPurgeEvent
  split
  · split
    · exact h
    · dsimp only
      split
      · exact (postDropped_noticesOk (h.hear _ _) .lease _).congr rfl rfl
      · exact h.congr rfl rfl
  · exact h

theorem tripPurgeEvent_noticesOk {s : State} (h : s.NoticesOk) (g : GroupId) : (tripPurgeEvent g s).NoticesOk := by
  unfold tripPurgeEvent
  split
  · exact h
  · split
    · exact h
    · exact (postDropped_noticesOk (h.hear _ _) .trip _).congr rfl rfl

theorem postSuperseded_noticesOk {s : State} (h : s.NoticesOk) (c : Chan) (tag : Nat) : (s.postSuperseded c tag).NoticesOk := by
  unfold State.postSuperseded
  split
  · exact h
  · exact h.post _ _ rfl

theorem applyGroupSet_noticesOk {s : State} (h : s.NoticesOk) (values : ChanSet) (tag : Nat) (cs : List Chan) :
    (applyGroupSet values tag cs s).NoticesOk := by
  induction cs generalizing s with
  | nil => exact h
  | cons c cs ih => exact ih ((postSuperseded_noticesOk h c tag).congr rfl rfl)

theorem applyAction_noticesOk {s : State} (h : s.NoticesOk) (e : Entry) (ordinal : Nat) :
    (applyAction e ordinal s).NoticesOk := by
  unfold applyAction
  split
  · exact (postSuperseded_noticesOk h _ _).congr rfl rfl
  · exact (postSuperseded_noticesOk h _ _).congr rfl rfl
  · exact (postSuperseded_noticesOk h _ _).congr rfl rfl
  · exact applyGroupSet_noticesOk h _ _ _
  · exact h

theorem takeApplication_noticesOk {s : State} (h : s.NoticesOk) (w : Work) (e : Entry) :
    (takeApplication w e s).1.NoticesOk := by
  unfold takeApplication
  dsimp only
  split
  · exact h.hear _ _
  · exact applyAction_noticesOk (h.hear _ _) e _

theorem answeredNotice_isLost {t : Nat} {e : Entry} {why : Option DropReason} {n : Notice}
    (h : answeredNotice t e why = some n) : n.isLost = false := by
  cases why with
  | none => exact firedNotice_isLost h
  | some why => cases h; rfl

theorem applicationEvent_noticesOk {s : State} (h : s.NoticesOk) : (applicationEvent s).NoticesOk := by
  unfold applicationEvent
  split
  · next w _ =>
    split
    · next e _ =>
      exact (postOutcome_noticesOk ((takeApplication_noticesOk h w e).hear .schedule
        ((takeApplication w e s).1.clock .channels)) e fun _ => answeredNotice_isLost (t := w.time) (e := e)
        (why := (takeApplication w e s).2)).congr (by simp) (by simp)
    · exact h
  · exact h

theorem postWaveDone_noticesOk {s : State} (h : s.NoticesOk) (w : Wave) (done : Nat) : (s.postWaveDone w done).NoticesOk := by
  unfold State.postWaveDone
  split
  · exact h.post _ _ rfl
  · exact h

theorem pulseEndEvent_noticesOk {s : State} (h : s.NoticesOk) (c : Chan) : (pulseEndEvent c s).NoticesOk := by
  unfold pulseEndEvent
  split
  · split
    · refine postWaveDone_noticesOk ?_ _ _
      exact h.congr rfl rfl
    · exact h
  · exact h

theorem trainEdgeEvent_noticesOk {s : State} (h : s.NoticesOk) (c : Chan) : (trainEdgeEvent c s).NoticesOk := by
  unfold trainEdgeEvent
  split
  · split
    · split
      · split
        · dsimp only
          split
          · exact h.congr rfl rfl
          · refine postWaveDone_noticesOk ?_ _ _
            exact h.congr rfl rfl
        · exact h.congr rfl rfl
      · exact h
    · exact h
  · exact h

theorem unlockEvent_noticesOk {s : State} (h : s.NoticesOk) (c : Chan) (g : GroupId) : (unlockEvent c g s).NoticesOk := by
  unfold unlockEvent
  split
  · split
    · exact h
    · dsimp only
      split
      · unfold State.postUnlocked
        split
        · exact h.congr rfl rfl
        · refine State.NoticesOk.post ?_ _ _ rfl
          exact h.congr rfl rfl
      · exact h.congr rfl rfl
  · exact h

theorem grantStep_noticesOk {s : State} (h : s.NoticesOk) (r : ResId) : (grantStep r s).NoticesOk := by
  unfold grantStep
  split
  · exact h.congr rfl rfl
  · refine State.NoticesOk.post ?_ _ _ rfl
    exact h.congr rfl rfl

theorem endLease_noticesOk {s : State} (h : s.NoticesOk) (r : ResId) (cause : EndCause) (old : Port) :
    (endLease r cause old s).NoticesOk := by
  unfold endLease
  dsimp only
  split
  · refine grantStep_noticesOk ?_ r
    exact h.congr rfl rfl
  · exact h.congr rfl rfl

theorem grantStepEvent_noticesOk {s : State} (h : s.NoticesOk) (c : Chan) : (grantStepEvent c s).NoticesOk := by
  unfold grantStepEvent
  split
  · next clk _ => exact (grantStep_noticesOk (h.hear .leases clk) (resOf c)).congr (by simp) (by simp)
  · exact h

theorem releaseRequest_noticesOk {s : State} (h : s.NoticesOk) (p : Port) (payload : List Byte) :
    (releaseRequest p payload s).1.NoticesOk := by
  unfold releaseRequest
  split
  · exact h
  · dsimp only
    split
    · exact endLease_noticesOk h _ _ _
    · split
      · exact h.congr rfl rfl
      · exact h

theorem revocationEvent_noticesOk {s : State} (h : s.NoticesOk) (r : ResId) : (revocationEvent r s).NoticesOk := by
  unfold revocationEvent
  split
  · dsimp only
    split
    · split
      · refine endLease_noticesOk (State.NoticesOk.post ?_ _ _ rfl) _ _ _
        exact h.congr rfl rfl
      · exact h.congr rfl rfl
    · exact h.congr rfl rfl
  · exact h

theorem waitLimitExpiryEvent_noticesOk {s : State} (h : s.NoticesOk) (r : ResId) (p : Port) :
    (waitLimitExpiryEvent r p s).NoticesOk := by
  unfold waitLimitExpiryEvent
  split
  · exact h
  · split
    · refine State.NoticesOk.post ?_ _ _ rfl
      exact h.congr rfl rfl
    · exact h

theorem endLeases_noticesOk {s : State} (h : s.NoticesOk) (p : Port) (rs : List ResId) :
    (rs.foldl (endLeaseOf p) s).NoticesOk := by
  induction rs generalizing s with
  | nil => exact h
  | cons r rs ih =>
    refine ih (s := endLeaseOf p s r) ?_
    unfold endLeaseOf
    split
    · exact endLease_noticesOk h _ _ _
    · exact h

theorem leaseTeardownEvent_noticesOk {s : State} (h : s.NoticesOk) (p : Port) : (leaseTeardownEvent p s).NoticesOk := by
  unfold leaseTeardownEvent
  split
  · next clk _ =>
    have withdrawn : ({ s.hear .leases clk with
        leases := mapRecords (s.hear .leases clk).leases fun _ x => { x with queue := withoutPort p x.queue } } : State).NoticesOk :=
      h.congr rfl rfl
    exact (endLeases_noticesOk withdrawn p (List.finRange 17)).congr (by simp) (by simp)
  · exact h

/-! ### The journal and the trip groups -/

theorem readyCheck_noticesOk {s : State} (h : s.NoticesOk) (e : JournalEntry) (p : Port) : (readyCheck e s p).NoticesOk := by
  unfold readyCheck
  split
  · exact h
  · split
    · exact (h.setQueue ((h.queues p).setLatch true)).post _ _ rfl
    · exact h

theorem storeEntry_noticesOk {s : State} (h : s.NoticesOk) (body : EntryBody) : (storeEntry body s).NoticesOk := by
  have checks : ∀ (ps : List Port) (t : State) (e : JournalEntry), t.NoticesOk → (ps.foldl (readyCheck e) t).NoticesOk := by
    intro ps
    induction ps with
    | nil => exact fun _ _ h => h
    | cons p ps ih => exact fun t e h => ih _ e (readyCheck_noticesOk h e p)
  refine checks _ _ _ ?_
  exact h.congr rfl rfl

theorem storeGap_noticesOk {s : State} (h : s.NoticesOk) : (storeGap s).NoticesOk := by
  unfold storeGap
  split
  · refine storeEntry_noticesOk ?_ _
    exact h.congr rfl rfl
  · exact h

theorem journalOfferEvent_noticesOk {s : State} (h : s.NoticesOk) (src : OfferSource) : (journalOfferEvent src s).NoticesOk := by
  unfold journalOfferEvent
  split
  · exact h
  · unfold takeOffer
    split
    · split
      · refine storeEntry_noticesOk ?_ _
        exact h.congr rfl rfl
      · exact h.congr rfl rfl
    · exact h.congr rfl rfl

theorem clearLatch_noticesOk {s : State} (h : s.NoticesOk) (p : Port) : (s.clearLatch p).NoticesOk :=
  h.setQueue ((h.queues p).setLatch false)

theorem unsubscribeRequest_noticesOk {s : State} (h : s.NoticesOk) (p : Port) (payload : List Byte) :
    (unsubscribeRequest p payload s).1.NoticesOk := by
  unfold unsubscribeRequest
  split
  · exact h
  · refine storeGap_noticesOk (clearLatch_noticesOk ?_ p)
    exact h.congr rfl rfl

theorem settleRead_noticesOk {s : State} (h : s.NoticesOk) (p : Port) (l : List JournalEntry) :
    (settleRead p l s).1.NoticesOk := by
  unfold settleRead
  split
  · exact h
  · dsimp only
    split
    · exact h.congr rfl rfl
    · refine clearLatch_noticesOk ?_ p
      exact h.congr rfl rfl

theorem readRequest_noticesOk {s : State} (h : s.NoticesOk) (p : Port) (payload : List Byte) :
    (readRequest p payload s).1.NoticesOk := by
  unfold readRequest
  split
  · exact h
  · split
    · exact h
    · refine settleRead_noticesOk (storeGap_noticesOk ?_) _ _
      exact h.congr rfl rfl

theorem journalTeardownEvent_noticesOk {s : State} (h : s.NoticesOk) (p : Port) : (journalTeardownEvent p s).NoticesOk := by
  unfold journalTeardownEvent
  split
  · dsimp only
    split
    · refine (storeGap_noticesOk (?_ : State.NoticesOk _)).congr rfl rfl
      exact h.congr rfl rfl
    · exact h.congr rfl rfl
  · exact h

theorem groupLineChangeEvent_noticesOk {s : State} (h : s.NoticesOk) (g : GroupId) (i : LineId) :
    (groupLineChangeEvent g i s).NoticesOk := by
  unfold groupLineChangeEvent
  split
  · exact h
  · dsimp only
    split
    · unfold tripGroup
      refine (State.NoticesOk.postEach (?_ : State.NoticesOk _) .groups (n := ⟨.tripped, g.val, i.val, s.tb.machTime⟩) rfl _).congr
        rfl rfl
      exact h.congr rfl rfl
    · exact h.congr rfl rfl

/-! ### The notice queues' own events -/

theorem noticePostEvent_noticesOk {s : State} (h : s.NoticesOk) (p : Port) (b : PostBlock) : (noticePostEvent p b s).NoticesOk := by
  unfold noticePostEvent
  split
  · exact h
  next x hx =>
  split
  · exact h
  · have taken : (({ s with posts := s.posts.erase x } : State).hear (.queue p) x.clk).NoticesOk :=
      ⟨h.queues, fun y hy => h.posts y (List.mem_of_mem_erase hy)⟩
    dsimp only
    split
    · exact taken.setQueue ((h.queues p).take (h.posts x (List.mem_of_find?_eq_some hx)))
    · exact taken

theorem noticesRequest_noticesOk {s : State} (h : s.NoticesOk) (p : Port) (payload : List Byte) :
    (noticesRequest p payload s).1.NoticesOk := by
  unfold noticesRequest
  split
  · exact h
  · exact h.setQueue ((h.queues p).drop _)

theorem noticeTeardownEvent_noticesOk {s : State} (h : s.NoticesOk) (p : Port) : (noticeTeardownEvent p s).NoticesOk := by
  unfold noticeTeardownEvent
  split
  · exact (h.setQueue (p := p) (.empty false)).congr rfl rfl
  · exact h

/-! ### Every step keeps the queues -/

theorem reset_queue (p : Port) : State.reset.queue p = {} := Vector.getElem_replicate p.isLt

theorem reset_noticesOk : State.reset.NoticesOk where
  queues p := reset_queue p ▸ .empty false
  posts := nofun

theorem takeRequest_noticesOk {k : ReqKind} {agent : Agent} {p : Port} {body : List Byte → State → State × Answer} {s : State}
    (done : ∀ payload t, State.NoticesOk t → (body payload t).1.NoticesOk) (h : s.NoticesOk) :
    (takeRequest k agent p body s).NoticesOk :=
  takeRequest_induct (P := State.NoticesOk) (fun _ _ _ h => h.congr (by simp) (by simp)) (fun _ _ h => h.hear _ _) done h

theorem exec_noticesOk {i : Instr} {s t : State} (h : exec i s = .next t) (hs : s.NoticesOk) : t.NoticesOk := by
  cases i <;> obtain rfl := Host.Outcome.next.inj h
  case resetEntry n => rcases resetEntry_eq n s with e | e <;> rw [e]; exacts [hs, reset_noticesOk.congr rfl rfl]
  case resetRelease pins => rcases resetRelease_eq pins s with e | e <;> rw [e]; exacts [hs, reset_noticesOk.congr rfl rfl]
  case powerApplied => exact reset_noticesOk.congr rfl rfl
  case stepBoundary => exact stepBoundaryEvent_noticesOk hs
  case timeEnd => exact timeEndEvent_noticesOk hs
  case pace p => exact takeRequest_noticesOk (fun x _ h => paceRequest_noticesOk h p x) hs
  case release p => exact takeRequest_noticesOk (fun x _ h => releaseRequest_noticesOk h p x) hs
  case unsubscribe p => exact takeRequest_noticesOk (fun x _ h => unsubscribeRequest_noticesOk h p x) hs
  case read p => exact takeRequest_noticesOk (fun x _ h => readRequest_noticesOk h p x) hs
  case notices p => exact takeRequest_noticesOk (fun x _ h => noticesRequest_noticesOk h p x) hs
  case scheduleTick slice =>
    have opened : (openTick s).NoticesOk := hs.congr (by simp) (by simp)
    exact (takeEntries_noticesOk opened slice).congr (by simp [scheduleTickEvent]) (by simp [scheduleTickEvent])
  case application => exact applicationEvent_noticesOk hs
  case pulseEnd c => exact pulseEndEvent_noticesOk hs c
  case trainEdge c => exact trainEdgeEvent_noticesOk hs c
  case revocation r => exact revocationEvent_noticesOk hs r
  case waitLimitExpiry r p => exact waitLimitExpiryEvent_noticesOk hs r p
  case leaseEndPurge c => exact leaseEndPurgeEvent_noticesOk hs c
  case grantStep c => exact grantStepEvent_noticesOk hs c
  case groupLineChange g i => exact groupLineChangeEvent_noticesOk hs g i
  case tripPurge g => exact tripPurgeEvent_noticesOk hs g
  case unlock c g => exact unlockEvent_noticesOk hs c g
  case journalOffer src => exact journalOfferEvent_noticesOk hs src
  case noticePost p b => exact noticePostEvent_noticesOk hs p b
  case leaseTeardown p => exact leaseTeardownEvent_noticesOk hs p
  case journalTeardown p => exact journalTeardownEvent_noticesOk hs p
  case noticeTeardown p => exact noticeTeardownEvent_noticesOk hs p
  all_goals
    exact hs.congr (by simp [takeScheduleRequest, apply_ite State.queues])
      (by simp [takeScheduleRequest, apply_ite State.posts])

/-- Settles O59: the queue's own events keep its length and the place of a NOTICES_LOST, and no post is one. -/
theorem stepKeepsNotices : Obligations.StepKeepsNotices := fun _ _ hs h =>
  step_induct (P := State.NoticesOk) (fun _ _ h => h.congr rfl rfl) (fun s h => h.congr (by simp) (by simp))
    (fun _ _ _ => exec_noticesOk) hs h

end Sys2Proof.Machine
end

section
/-! PROOFS. The Capture Journal: the ring and its numbers, the cursors, the pending losses, and the entries that a KEEP reader has still
to read. -/

namespace Sys2Proof.Machine

/-! ### Sequence numbers and positions (R111, R112) -/

theorem consecutive_getElem? {n : SeqNum} {l : List JournalEntry} (h : consecutive n l) {k : Nat} {e : JournalEntry}
    (he : l[k]? = some e) : e.seq = n + BitVec.ofNat 32 k := by
  induction l generalizing n k with
  | nil => cases he
  | cons x l ih =>
    obtain ⟨hx, hl⟩ := h
    cases k with
    | zero =>
      cases he
      simpa using hx
    | succ k =>
      rw [ih hl he]
      bv_omega

theorem consecutive_append {n : SeqNum} {l : List JournalEntry} {e : JournalEntry} (h : consecutive n l)
    (he : e.seq = n + BitVec.ofNat 32 l.length) : consecutive n (l ++ [e]) := by
  induction l generalizing n with
  | nil => exact ⟨by simpa using he, trivial⟩
  | cons x l ih =>
    refine ⟨h.1, ih h.2 ?_⟩
    rw [he, List.length_cons]
    bv_omega

/-- The ring, its numbers and the cursors, and the losses without a word on who needs the tail: what every change of the journal keeps
also in the middle of an event. -/
structure Journal.Sound (j : Journal) : Prop where
  capacity : j.ring.length ≤ Config.journalCapacity
  numbers : consecutive j.tailSeq j.ring
  counter : j.seqCounter = j.tailSeq + BitVec.ofNat 32 j.ring.length
  cursors : ∀ (p : Port) (sub : Subscription), j.subs[p] = some sub → j.position sub.cursor ≤ j.ring.length
  masks : ∀ (p : Port) (sub : Subscription), j.subs[p] = some sub → sub.mask ≠ 0
  keep : ∀ (p : Port) (sub : Subscription), j.subs[p] = some sub → sub.mode = .keep → sub.overtaken = false
  lost : j.lostCount ≤ Config.max16
  lostKinds : j.lostCount = 0 ↔ j.lostMask = 0
  full : j.lostCount ≠ 0 → j.ring.length = Config.journalCapacity

theorem Journal.ok_iff {j : Journal} : j.Ok ↔ j.Sound ∧ (j.lostCount ≠ 0 → j.tailNeeded = true) :=
  ⟨fun h => ⟨{ h with full := fun hc => (h.pending hc).1 }, fun hc => (h.pending hc).2⟩,
    fun ⟨h, hn⟩ => { h with pending := fun hc => ⟨h.full hc, hn hc⟩ }⟩

theorem Journal.tailSeq_of_cons {j : Journal} {e : JournalEntry} {l : List JournalEntry} (h : j.ring = e :: l) :
    j.tailSeq = e.seq := by
  rw [Journal.tailSeq, h]

theorem Journal.tailSeq_of_nil {j : Journal} (h : j.ring = []) : j.tailSeq = j.seqCounter := by
  rw [Journal.tailSeq, h]

/-- A new entry at the head leaves the tail's number. -/
theorem Journal.tailSeq_push (j : Journal) (body : EntryBody) : (j.push body).tailSeq = j.tailSeq := by
  cases h : j.ring with
  | nil => rw [Journal.tailSeq_of_nil h, Journal.tailSeq_of_cons (by rw [Journal.push, h]; rfl)]
  | cons e l => rw [Journal.tailSeq_of_cons h, Journal.tailSeq_of_cons (by rw [Journal.push, h]; rfl)]

/-! ### A tail that leaves (R120) -/

@[simp] theorem Subscription.passTail_mask (sub : Subscription) (old new : SeqNum) : (sub.passTail old new).mask = sub.mask := by
  unfold Subscription.passTail
  split <;> rfl

@[simp] theorem Subscription.passTail_mode (sub : Subscription) (old new : SeqNum) : (sub.passTail old new).mode = sub.mode := by
  unfold Subscription.passTail
  split <;> rfl

theorem Subscription.passTail_cursor (sub : Subscription) (old new : SeqNum) :
    (sub.passTail old new).cursor = if sub.cursor = old then new else sub.cursor := by
  unfold Subscription.passTail
  split <;> rfl

/-- A KEEP subscription is not overtaken. -/
theorem Subscription.passTail_overtaken {sub : Subscription} (h : sub.mode = .keep) (old new : SeqNum) :
    (sub.passTail old new).overtaken = sub.overtaken := by
  unfold Subscription.passTail
  split
  · simp [h]
  · rfl

/-- A cursor behind the old tail is as far from the new tail, less one. -/
theorem position_succ {c t : SeqNum} (h : c ≠ t) : (c - (t + 1)).toNat + 1 = (c - t).toNat := by
  have : c.toNat ≠ t.toNat := fun e => h (BitVec.eq_of_toNat_eq e)
  bv_omega

theorem Journal.dropTail_subs (j : Journal) (p : Port) :
    j.dropTail.subs[p] = j.subs[p].map fun sub => sub.passTail j.tailSeq j.dropTail.tailSeq := by
  simp [Journal.dropTail, mapRecords, Journal.tailSeq]

namespace Journal.Sound

variable {j : Journal}

/-- The number after the tail's is the new tail's. -/
theorem tailSeq_dropTail (h : j.Sound) (hr : j.ring ≠ []) : j.dropTail.tailSeq = j.tailSeq + 1 := by
  obtain ⟨e, l, hl⟩ := List.exists_cons_of_ne_nil hr
  have ring : j.dropTail.ring = l := by simp [Journal.dropTail, hl]
  have numbers := h.numbers
  rw [hl] at numbers
  cases l with
  | nil =>
    have counter := h.counter
    rw [Journal.tailSeq_of_nil ring]
    simpa [hl] using show j.dropTail.seqCounter = _ from counter
  | cons e' l =>
    rw [Journal.tailSeq_of_cons ring]
    exact numbers.2.1

theorem position_head (h : j.Sound) : j.position j.seqCounter = j.ring.length := by
  have := h.capacity
  rw [Journal.position, h.counter]
  simp only [Config.journalCapacity] at this
  bv_omega

theorem position_tail (j : Journal) : j.position j.tailSeq = 0 := by simp [Journal.position]

theorem push (h : j.Sound) (hl : j.ring.length < Config.journalCapacity) (body : EntryBody) : (j.push body).Sound where
  capacity := by simpa [Journal.push] using hl
  numbers := by
    rw [Journal.tailSeq_push]
    exact consecutive_append h.numbers h.counter
  counter := by
    rw [Journal.tailSeq_push, Journal.push, h.counter, List.length_append, List.length_singleton]
    bv_omega
  cursors p sub hs := by
    rw [Journal.position, Journal.tailSeq_push]
    exact (h.cursors p sub hs).trans (by simp [Journal.push])
  masks := h.masks
  keep := h.keep
  lost := h.lost
  lostKinds := h.lostKinds
  full hc := absurd (h.full hc) (Nat.ne_of_lt hl)

theorem dropTail (h : j.Sound) (hr : j.ring ≠ []) (hc : j.lostCount = 0) : j.dropTail.Sound := by
  have tail := h.tailSeq_dropTail hr
  have capacity := h.capacity
  have length : j.dropTail.ring.length + 1 = j.ring.length := by
    have := List.length_pos_iff.2 hr
    simp only [Journal.dropTail, List.length_tail]
    omega
  have subs : ∀ (p : Port) (sub : Subscription), j.dropTail.subs[p] = some sub →
      ∃ old, j.subs[p] = some old ∧ sub = old.passTail j.tailSeq (j.tailSeq + 1) := fun p sub hs => by
    rw [Journal.dropTail_subs, tail, Option.map_eq_some_iff] at hs
    obtain ⟨old, ho, rfl⟩ := hs
    exact ⟨old, ho, rfl⟩
  refine ⟨?_, ?_, ?_, fun p sub hs => ?_, fun p sub hs => ?_, fun p sub hs hm => ?_, h.lost, h.lostKinds,
    fun hn => absurd hc hn⟩
  · omega
  · obtain ⟨e, l, hl⟩ := List.exists_cons_of_ne_nil hr
    have numbers := h.numbers
    rw [hl] at numbers
    rw [tail]
    simpa [Journal.dropTail, hl] using numbers.2
  · have counter := h.counter
    rw [← length] at counter
    rw [tail]
    change j.seqCounter = _
    rw [counter]
    bv_omega
  · obtain ⟨old, ho, rfl⟩ := subs p sub hs
    have was := h.cursors p old ho
    rw [Journal.position] at was
    rw [Journal.position, tail, Subscription.passTail_cursor]
    split
    · simp
    · next hne =>
      have := position_succ hne
      omega
  · obtain ⟨old, ho, rfl⟩ := subs p sub hs
    exact (Subscription.passTail_mask ..).symm ▸ h.masks p old ho
  · obtain ⟨old, ho, rfl⟩ := subs p sub hs
    rw [Subscription.passTail_mode] at hm
    rw [Subscription.passTail_overtaken hm]
    exact h.keep p old ho hm

/-- Room is made and an entry stored while no loss is pending. -/
theorem store (h : j.Sound) (hc : j.lostCount = 0) (body : EntryBody) : (j.makeRoom.push body).Sound := by
  unfold Journal.makeRoom
  split
  · next full =>
    have hr : j.ring ≠ [] := by
      rintro hr
      rw [hr] at full
      cases full
    refine (h.dropTail hr hc).push ?_ body
    have := h.capacity
    have := List.length_pos_iff.2 hr
    simp only [Journal.dropTail, List.length_tail]
    omega
  · next room => exact h.push (Nat.lt_of_not_le room) body

theorem setSub (h : j.Sound) {p : Port} {x : Option Subscription}
    (hx : ∀ sub, x = some sub → j.position sub.cursor ≤ j.ring.length ∧ sub.mask ≠ 0 ∧ (sub.mode = .keep → sub.overtaken = false)) :
    { j with subs := j.subs.set p x }.Sound := by
  have subs : ∀ (q : Port) (sub : Subscription), (j.subs.set p x)[q] = some sub → x = some sub ∨ j.subs[q] = some sub := by
    intro q sub hs
    by_cases hpq : p.val = q.val
    · exact .inl (by simpa [hpq] using hs)
    · exact .inr (by simpa [Vector.getElem_set_ne, hpq] using hs)
  exact { h with
    cursors := fun q sub hs => (subs q sub hs).elim (fun e => (hx sub e).1) (h.cursors q sub)
    masks := fun q sub hs => (subs q sub hs).elim (fun e => (hx sub e).2.1) (h.masks q sub)
    keep := fun q sub hs => (subs q sub hs).elim (fun e => (hx sub e).2.2) (h.keep q sub) }

theorem clearLoss (h : j.Sound) : { j with lostCount := 0, lostMask := 0 }.Sound :=
  { h with lost := Nat.zero_le _, lostKinds := iff_of_true rfl rfl, full := fun hc => absurd rfl hc }

theorem lose (h : j.Sound) (hl : j.ring.length = Config.journalCapacity) {kind : KindMask} (hk : kind ≠ 0) : (j.lose kind).Sound :=
  { h with
    lost := Nat.min_le_right _ _
    lostKinds := by
      refine iff_of_false (Nat.pos_iff_ne_zero.1 (lt_min (Nat.succ_pos _) (by decide))) fun h0 => hk ?_
      exact (BitVec.or_eq_zero_iff.1 h0).2
    full := fun _ => hl }

end Journal.Sound

/-! ### Kinds (R113, R115) -/

theorem ofNat_two_pow (w k : Nat) : BitVec.ofNat w (2 ^ k) = BitVec.twoPow w k :=
  BitVec.eq_of_toNat_eq (by rw [BitVec.toNat_ofNat, BitVec.toNat_twoPow])

theorem twoPow_ne_zero {w k : Nat} (hk : k < w) : BitVec.twoPow w k ≠ 0 := fun h => by
  have := congrArg BitVec.toNat h
  rw [BitVec.toNat_twoPow, Nat.mod_eq_of_lt (Nat.pow_lt_pow_right (by decide) hk)] at this
  exact absurd this (Nat.two_pow_pos k).ne'

theorem one_bit_and (mask : KindMask) {k : Nat} (hk : k < 14) :
    BitVec.ofNat 14 (2 ^ k) &&& mask ≠ 0 ↔ mask.getLsbD k = true := by
  rw [ofNat_two_pow, BitVec.twoPow_and]
  split
  · next h => exact iff_of_true (twoPow_ne_zero hk) h
  · next h => exact iff_of_false (fun hn => hn rfl) h

theorem OfferBody.kind_and (o : OfferBody) (mask : KindMask) : o.kind &&& mask ≠ 0 ↔ o.within mask := by
  cases o with
  | edge i rising => exact one_bit_and mask (by omega)
  | mark p tag mach => exact one_bit_and mask (by decide)
  | trip g i => exact one_bit_and mask (by decide)

theorem and_ne_zero_iff {w : Nat} (x y : BitVec w) : x &&& y ≠ 0 ↔ ∃ k, x.getLsbD k = true ∧ y.getLsbD k = true := by
  rw [ne_eq, ← not_iff_comm, not_exists]
  constructor
  · intro h
    exact BitVec.eq_of_getLsbD_eq fun k _ => by simpa [BitVec.getLsbD_and] using h k
  · rintro h k ⟨hx, hy⟩
    have := congrArg (·.getLsbD k) h
    simp [BitVec.getLsbD_and, hx, hy] at this

theorem JournalEntry.hits_iff (e : JournalEntry) (mask : KindMask) : e.hits mask = true ↔ e.body.within mask := by
  rw [JournalEntry.hits, bne_iff_ne]
  cases e.body with
  | edge i rising mach wall held => exact one_bit_and mask (by omega)
  | mark p tag mach wall => exact one_bit_and mask (by decide)
  | trip g i mach wall held => exact one_bit_and mask (by decide)
  | gap lost kinds wall => exact and_ne_zero_iff kinds mask

theorem OfferBody.kind_ne_zero (o : OfferBody) : o.kind ≠ 0 := by
  cases o with
  | edge i rising =>
    rw [OfferBody.kind, lineKind, ofNat_two_pow]
    exact twoPow_ne_zero (by omega)
  | mark p tag mach =>
    rw [OfferBody.kind, markKind, ofNat_two_pow]
    exact twoPow_ne_zero (by decide)
  | trip g i =>
    rw [OfferBody.kind, tripKind, ofNat_two_pow]
    exact twoPow_ne_zero (by decide)

/-! ### Who needs the tail (R115) -/

theorem Journal.tailNeeded_iff (j : Journal) : j.tailNeeded = true ↔ ∃ e later p sub, j.ring = e :: later ∧
    j.subs[(p : Port)] = some sub ∧ sub.mode = .keep ∧ sub.cursor = e.seq ∧ e.hits sub.mask = true := by
  cases h : j.ring with
  | nil => simp [Journal.tailNeeded, h]
  | cons e later =>
    simp only [Journal.tailNeeded, h, List.any_eq_true, List.mem_finRange, true_and]
    constructor
    · rintro ⟨p, hp⟩
      split at hp
      · next sub hs =>
        simp only [Subscription.needs, Bool.and_eq_true, beq_iff_eq] at hp
        exact ⟨e, later, p, sub, rfl, hs, hp.1.1, hp.1.2, hp.2⟩
      · cases hp
    · rintro ⟨_, _, p, sub, ⟨⟩, hs, hm, hc, hh⟩
      refine ⟨p, ?_⟩
      rw [hs]
      simp [Subscription.needs, hm, hc, hh]

/-- The tail is needed as before when every KEEP subscription still is one with its cursor and mask. -/
theorem Journal.tailNeeded_of_subs {j j' : Journal} (h : j.tailNeeded = true) (hr : j'.ring = j.ring)
    (hs : ∀ (p : Port) (sub : Subscription), j.subs[p] = some sub →
      ∃ sub', j'.subs[p] = some sub' ∧ sub'.mode = sub.mode ∧ sub'.cursor = sub.cursor ∧ sub'.mask = sub.mask) :
    j'.tailNeeded = true := by
  obtain ⟨e, later, p, sub, he, hp, hm, hc, hh⟩ := j.tailNeeded_iff.1 h
  obtain ⟨sub', hp', hm', hc', hk'⟩ := hs p sub hp
  exact j'.tailNeeded_iff.2 ⟨e, later, p, sub', hr ▸ he, hp', hm'.trans hm, hc'.trans hc, hk' ▸ hh⟩

theorem subs_set (subs : Vector (Option Subscription) 4) (p q : Port) (x : Option Subscription) :
    (subs.set p x)[q] = if p = q then x else subs[q] := by
  simp [Vector.getElem_set, Fin.ext_iff]

/-! ### Storing (R119, R120, R123) -/

theorem storeEntry_journal (body : EntryBody) (s : State) :
    (storeEntry body s).journal = s.journal.makeRoom.push body := by
  simp [storeEntry]

theorem gapDue_iff {s : State} : s.gapDue = true ↔ s.journal.lostCount ≠ 0 ∧ s.journal.tailNeeded = false := by
  simp [State.gapDue]

/-- The journal with its pending GAP stored. -/
def Journal.withGap (j : Journal) (wall : Nat) : Journal :=
  ({ j with lostCount := 0, lostMask := 0 } : Journal).makeRoom.push (.gap j.lostCount j.lostMask wall)

theorem storeGap_journal_of_due {s : State} (h : s.gapDue = true) :
    (storeGap s).journal = s.journal.withGap s.wallLow := by
  rw [storeGap, if_pos (gapDue_iff.1 h), storeEntry_journal]
  rfl

theorem storeGap_of_not_due {s : State} (h : s.gapDue = false) : storeGap s = s := by
  rw [storeGap, if_neg (mt gapDue_iff.2 (by simp [h]))]

/-- With the GAP stored when it is due, a loss is pending only while the tail is needed. -/
theorem storeGap_journal_ok {s : State} (h : s.journal.Sound) : (storeGap s).journal.Ok := by
  cases due : s.gapDue with
  | true =>
    rw [storeGap_journal_of_due due, Journal.ok_iff]
    refine ⟨h.clearLoss.store rfl _, fun hn => absurd ?_ hn⟩
    rw [Journal.withGap, Journal.push, Journal.makeRoom]
    split <;> rfl
  | false =>
    rw [storeGap_of_not_due due, Journal.ok_iff]
    refine ⟨h, fun hc => ?_⟩
    by_contra hn
    cases due.symm.trans (gapDue_iff.2 ⟨hc, eq_false_of_ne_true hn⟩)

theorem takeOffer_journal_ok {s : State} (h : s.journal.Ok) (o : OfferBody) : (takeOffer o s).journal.Ok := by
  obtain ⟨sound, needed⟩ := Journal.ok_iff.1 h
  unfold takeOffer
  split
  · split
    · next room =>
      have none : s.journal.lostCount = 0 := by
        by_contra hc
        rcases room with room | free
        · exact absurd (sound.full hc) (Nat.ne_of_lt room)
        · cases free.symm.trans (needed hc)
      rw [storeEntry_journal, Journal.ok_iff]
      refine ⟨sound.store none _, fun hn => absurd ?_ hn⟩
      rw [Journal.push, Journal.makeRoom]
      split <;> exact none
    · next full =>
      obtain ⟨full, tail⟩ := not_or.1 full
      refine Journal.ok_iff.2 ⟨sound.lose (Nat.le_antisymm sound.capacity (Nat.le_of_not_lt full)) o.kind_ne_zero, fun _ => ?_⟩
      exact eq_true_of_ne_false tail
  · exact h

/-! ### Requests and the teardown -/

theorem subscribeArgs_mask {payload : List Byte} {mask : KindMask} {mode : SubMode} {oldest : Bool}
    (h : subscribeArgs payload = some (mask, mode, oldest)) : mask ≠ 0 := by
  unfold subscribeArgs at h
  dsimp only at h
  split at h
  · split at h
    · next hm =>
      cases h
      intro h0
      have := congrArg BitVec.toNat h0
      rw [BitVec.toNat_ofNat, Nat.mod_eq_of_lt hm.2] at this
      exact absurd this (Nat.pos_iff_ne_zero.1 hm.1)
    · cases h
  · cases h

theorem subscribeRequest_journal_ok {s : State} (h : s.journal.Ok) (p : Port) (payload : List Byte) :
    (subscribeRequest p payload s).1.journal.Ok := by
  unfold subscribeRequest
  split
  · exact h
  next mask mode oldest hargs =>
  split
  · exact h
  next fresh =>
  obtain ⟨sound, needed⟩ := Journal.ok_iff.1 h
  refine Journal.ok_iff.2 ⟨sound.setSub fun sub e => ?_, fun hc => ?_⟩
  · cases e
    refine ⟨?_, subscribeArgs_mask hargs, fun _ => rfl⟩
    dsimp only
    split
    · rw [Journal.Sound.position_tail]
      exact Nat.zero_le _
    · exact sound.position_head.le
  · refine Journal.tailNeeded_of_subs (needed hc) rfl fun q sub hq => ⟨sub, ?_, rfl, rfl, rfl⟩
    have hpq : p ≠ q := by
      rintro rfl
      cases fresh.symm.trans hq
    exact (subs_set _ _ _ _).trans ((if_neg hpq).trans hq)

theorem setSub_none_sound {s : State} (h : s.journal.Sound) (p : Port) : (s.setSub p none).journal.Sound := h.setSub nofun

theorem unsubscribeRequest_journal_ok {s : State} (h : s.journal.Ok) (p : Port) (payload : List Byte) :
    (unsubscribeRequest p payload s).1.journal.Ok := by
  unfold unsubscribeRequest
  split
  · exact h
  · exact storeGap_journal_ok (setSub_none_sound (Journal.ok_iff.1 h).1 p)

theorem journalTeardownEvent_journal_ok {s : State} (h : s.journal.Ok) (p : Port) : (journalTeardownEvent p s).journal.Ok := by
  unfold journalTeardownEvent
  split
  · dsimp only
    split
    · exact storeGap_journal_ok (setSub_none_sound (Journal.ok_iff.1 h).1 p)
    · exact h
  · exact h

/-- READ examines entries of the ring alone. -/
theorem examine_le (mask : KindMask) (n : Nat) (l : List JournalEntry) : (examine mask n l).2 ≤ l.length := by
  induction l generalizing n with
  | nil => cases n <;> exact Nat.zero_le _
  | cons e l ih =>
    cases n with
    | zero => exact Nat.zero_le _
    | succ n =>
      unfold examine
      split
      · exact Nat.succ_le_succ (ih n)
      · exact Nat.succ_le_succ (ih (n + 1))

theorem position_add {j : Journal} (h : j.Sound) {c : SeqNum} {k : Nat} (hk : j.position c + k ≤ j.ring.length) :
    j.position (c + BitVec.ofNat 32 k) = j.position c + k := by
  have := h.capacity
  simp only [Config.journalCapacity] at this
  simp only [Journal.position] at hk ⊢
  bv_omega

/-- Clearing OVERTAKEN moves no cursor. -/
theorem settleRead_journal_ok {s : State} (h : s.journal.Ok) (p : Port) (l : List JournalEntry) :
    (settleRead p l s).1.journal.Ok := by
  unfold settleRead
  split
  · exact h
  next sub hs =>
  have cleared : (s.setSub p (some { sub with overtaken := false })).journal.Ok := by
    obtain ⟨sound, needed⟩ := Journal.ok_iff.1 h
    refine Journal.ok_iff.2 ⟨sound.setSub fun x e => ?_, fun hc => ?_⟩
    · cases e
      exact ⟨sound.cursors p sub hs, sound.masks p sub hs, fun _ => rfl⟩
    · refine Journal.tailNeeded_of_subs (needed hc) rfl fun q old hq => ?_
      by_cases hpq : p = q
      · subst hpq
        cases hs.symm.trans hq
        exact ⟨_, (subs_set _ _ _ _).trans (if_pos rfl), rfl, rfl, rfl⟩
      · exact ⟨old, (subs_set _ _ _ _).trans ((if_neg hpq).trans hq), rfl, rfl, rfl⟩
  dsimp only
  split <;> exact cleared

theorem readRequest_journal_ok {s : State} (h : s.journal.Ok) (p : Port) (payload : List Byte) :
    (readRequest p payload s).1.journal.Ok := by
  unfold readRequest
  split
  · exact h
  next n _ =>
  split
  · exact h
  next sub hs =>
  obtain ⟨sound, -⟩ := Journal.ok_iff.1 h
  refine settleRead_journal_ok (storeGap_journal_ok (sound.setSub fun x e => ?_)) p _
  cases e
  refine ⟨?_, sound.masks p sub hs, sound.keep p sub hs⟩
  have cursor := sound.cursors p sub hs
  have examined := examine_le sub.mask n (s.journal.fromCursor sub.cursor)
  rw [Journal.fromCursor, List.length_drop] at examined
  have fits : s.journal.position sub.cursor + (examine sub.mask n (s.journal.fromCursor sub.cursor)).2 ≤
      s.journal.ring.length := by
    rw [Journal.fromCursor]
    omega
  exact (position_add sound fits).trans_le fits

/-! ### Every step keeps the journal -/

theorem reset_journal_ok : State.reset.journal.Ok where
  capacity := Nat.zero_le _
  numbers := trivial
  counter := rfl
  cursors := by
    intro p sub hs
    simp [State.reset] at hs
  masks := by
    intro p sub hs
    simp [State.reset] at hs
  keep := by
    intro p sub hs
    simp [State.reset] at hs
  lost := Nat.zero_le _
  lostKinds := iff_of_true rfl rfl
  pending h := absurd rfl h

theorem takeRequest_journal_ok {k : ReqKind} {agent : Agent} {p : Port} {body : List Byte → State → State × Answer} {s : State}
    (done : ∀ payload (t : State), t.journal.Ok → (body payload t).1.journal.Ok) (h : s.journal.Ok) :
    (takeRequest k agent p body s).journal.Ok :=
  takeRequest_induct (P := fun s => s.journal.Ok) (by simp) (by simp) done h

theorem journalOfferEvent_journal_ok {s : State} (h : s.journal.Ok) (src : OfferSource) : (journalOfferEvent src s).journal.Ok := by
  unfold journalOfferEvent
  split
  · exact h
  · refine takeOffer_journal_ok ?_ _
    exact h

theorem exec_journal_ok {i : Instr} {s t : State} (h : exec i s = .next t) (hs : s.journal.Ok) : t.journal.Ok := by
  cases i <;> obtain rfl := Host.Outcome.next.inj h
  case resetEntry n => rcases resetEntry_eq n s with e | e <;> rw [e]; exacts [hs, reset_journal_ok]
  case resetRelease pins => rcases resetRelease_eq pins s with e | e <;> rw [e]; exacts [hs, reset_journal_ok]
  case powerApplied => exact reset_journal_ok
  case subscribe p => exact takeRequest_journal_ok (fun x _ h => subscribeRequest_journal_ok h p x) hs
  case unsubscribe p => exact takeRequest_journal_ok (fun x _ h => unsubscribeRequest_journal_ok h p x) hs
  case read p => exact takeRequest_journal_ok (fun x _ h => readRequest_journal_ok h p x) hs
  case journalOffer src => exact journalOfferEvent_journal_ok hs src
  case journalTeardown p => exact journalTeardownEvent_journal_ok hs p
  all_goals simpa [takeScheduleRequest, apply_ite State.journal] using hs

/-- Settles O56: an entry is stored with no loss pending, a loss is counted with the ring full and its tail needed, and the event that
frees the tail stores the GAP. -/
theorem stepKeepsJournal : Obligations.StepKeepsJournal := fun _ _ hs h =>
  step_induct (P := fun s => s.journal.Ok) (fun _ _ h => h) (fun s h => by simpa using h) (fun _ _ _ => exec_journal_ok) hs h

/-! ### A KEEP reader's entries (R122) -/

/-- Entry `e`, the `k`-th of the ring, matches the KEEP subscription `sub` of port `p`, which has not passed it. -/
structure Journal.Awaits (j : Journal) (p : Port) (sub : Subscription) (k : Nat) (e : JournalEntry) : Prop where
  subscribed : j.subs[p] = some sub
  keep : sub.mode = .keep
  entry : j.ring[k]? = some e
  ahead : j.position sub.cursor ≤ k
  hits : e.hits sub.mask = true

/-- The entry is in the ring, the subscription is gone, or its cursor has moved past the entry. -/
def Journal.Served (j : Journal) (p : Port) (sub : Subscription) (e : JournalEntry) : Prop :=
  e ∈ j.ring ∨ j.subs[p] = none ∨
    ∃ sub', j.subs[p] = some sub' ∧ (e.seq - sub.cursor).toNat < (sub'.cursor - sub.cursor).toNat

namespace Journal.Awaits

variable {j : Journal} {p : Port} {sub : Subscription} {k : Nat} {e : JournalEntry}

theorem mem (h : j.Awaits p sub k e) : e ∈ j.ring := List.mem_of_getElem? h.entry

/-- A tail that is awaited is needed. -/
theorem tailNeeded (h : j.Awaits p sub 0 e) : j.tailNeeded = true := by
  have entry := h.entry
  cases hr : j.ring with
  | nil => simp [hr] at entry
  | cons x later =>
    have hx : x = e := by simpa [hr] using entry
    subst hx
    have same : sub.cursor = j.tailSeq := by
      have ahead := h.ahead
      simp only [Journal.position] at ahead
      bv_omega
    exact j.tailNeeded_iff.2 ⟨x, later, p, sub, hr, h.subscribed, h.keep, same.trans (Journal.tailSeq_of_cons hr), h.hits⟩

/-- An entry stored over a tail that is not needed drops no entry awaited. -/
theorem mem_store (h : j.Awaits p sub k e) (hn : j.tailNeeded = false) (body : EntryBody) :
    e ∈ (j.makeRoom.push body).ring := by
  have behind : e ∈ j.ring.tail := by
    cases k with
    | zero => cases hn.symm.trans h.tailNeeded
    | succ k =>
      have entry := h.entry
      rw [← List.getElem?_tail] at entry
      exact List.mem_of_getElem? entry
  refine List.mem_append_left _ ?_
  unfold Journal.makeRoom
  split
  · exact behind
  · exact List.mem_of_mem_tail behind

end Journal.Awaits

/-- Storing the GAP that is due drops no entry awaited. -/
theorem mem_storeGap {s : State} {p : Port} {sub : Subscription} {k : Nat} {e : JournalEntry}
    (h : s.journal.Awaits p sub k e) : e ∈ (storeGap s).journal.ring := by
  cases due : s.gapDue with
  | false =>
    rw [storeGap_of_not_due due]
    exact h.mem
  | true =>
    rw [storeGap_journal_of_due due]
    exact Journal.Awaits.mem_store (j := { s.journal with lostCount := 0, lostMask := 0 })
      { subscribed := h.subscribed, keep := h.keep, entry := h.entry, ahead := h.ahead, hits := h.hits }
      (gapDue_iff.1 due).2 _

theorem makeRoom_subs (j : Journal) (q : Port) : j.makeRoom.subs[q] = j.subs[q] ∨
    j.makeRoom.subs[q] = j.subs[q].map fun sub => sub.passTail j.tailSeq j.dropTail.tailSeq := by
  unfold Journal.makeRoom
  split
  · exact .inr (Journal.dropTail_subs j q)
  · exact .inl rfl

/-- Storing the GAP moves only the cursors that hold the tail, and makes no subscription. -/
theorem storeGap_sub (s : State) (q : Port) : (storeGap s).sub q = s.sub q ∨
    ∃ new, (storeGap s).sub q = (s.sub q).map fun sub => sub.passTail s.journal.tailSeq new := by
  cases due : s.gapDue with
  | false => exact .inl (by rw [storeGap_of_not_due due])
  | true =>
    have same : (storeGap s).sub q = ({ s.journal with lostCount := 0, lostMask := 0 } : Journal).makeRoom.subs[q] := by
      rw [State.sub, storeGap_journal_of_due due]
      rfl
    rw [same]
    exact (makeRoom_subs _ q).imp id fun h => ⟨_, h⟩

theorem storeGap_sub_of_none {s : State} {q : Port} (h : s.sub q = none) : (storeGap s).sub q = none := by
  rcases storeGap_sub s q with e | ⟨new, e⟩ <;> simp [e, h]

/-- A cursor behind the tail does not move when the GAP is stored. -/
theorem storeGap_sub_of_behind {s : State} {q : Port} {sub : Subscription} (h : s.sub q = some sub)
    (hc : sub.cursor ≠ s.journal.tailSeq) : (storeGap s).sub q = some sub := by
  rcases storeGap_sub s q with e | ⟨new, e⟩
  · rw [e, h]
  · rw [e, h, Option.map_some, Subscription.passTail, if_neg hc]

theorem settleRead_ring (p : Port) (l : List JournalEntry) (s : State) :
    (settleRead p l s).1.journal.ring = s.journal.ring := by
  unfold settleRead
  split
  · rfl
  · dsimp only
    split <;> rfl

/-- READ's last steps leave every cursor. -/
theorem settleRead_sub (p q : Port) (l : List JournalEntry) (s : State) : (settleRead p l s).1.sub q = s.sub q ∨
    ∃ sub, s.sub q = some sub ∧ (settleRead p l s).1.sub q = some { sub with overtaken := false } := by
  unfold settleRead
  split
  · exact .inl rfl
  next sub hs =>
  have set : (s.setSub p (some { sub with overtaken := false })).sub q = s.sub q ∨
      ∃ old, s.sub q = some old ∧
        (s.setSub p (some { sub with overtaken := false })).sub q = some { old with overtaken := false } := by
    by_cases hpq : p = q
    · subst hpq
      exact .inr ⟨sub, hs, State.sub_setSub_self ..⟩
    · exact .inl ((State.sub_setSub ..).trans (if_neg hpq))
  dsimp only
  split <;> exact set

theorem setSub_awaits {s : State} {p q : Port} {sub : Subscription} {k : Nat} {e : JournalEntry}
    (h : s.journal.Awaits q sub k e) (hpq : p ≠ q) (x : Option Subscription) : (s.setSub p x).journal.Awaits q sub k e :=
  { h with subscribed := (subs_set ..).trans ((if_neg hpq).trans h.subscribed) }

/-- A subscription removed: its port has nothing to read, and every other reader keeps its entries. -/
theorem removal_served {s : State} {p q : Port} {sub : Subscription} {k : Nat} {e : JournalEntry}
    (h : s.journal.Awaits q sub k e) : (storeGap (s.setSub p none)).journal.Served q sub e := by
  by_cases hpq : p = q
  · subst hpq
    exact .inr (.inl (storeGap_sub_of_none (State.sub_setSub_self ..)))
  · exact .inl (mem_storeGap (setSub_awaits h hpq none))

/-- The latch is no part of the journal. -/
theorem storeGap_clearLatch_journal (s : State) (p : Port) : (storeGap (s.clearLatch p)).journal = (storeGap s).journal := by
  cases due : s.gapDue with
  | true =>
    have due' : (s.clearLatch p).gapDue = true := due
    rw [storeGap_journal_of_due due, storeGap_journal_of_due due']
    rfl
  | false =>
    have due' : (s.clearLatch p).gapDue = false := due
    rw [storeGap_of_not_due due, storeGap_of_not_due due']
    rfl

theorem unsubscribeRequest_served {s : State} {q : Port} {sub : Subscription} {k : Nat} {e : JournalEntry}
    (h : s.journal.Awaits q sub k e) (p : Port) (payload : List Byte) :
    (unsubscribeRequest p payload s).1.journal.Served q sub e := by
  unfold unsubscribeRequest
  split
  · exact .inl h.mem
  · have served := removal_served (p := p) (s := s) h
    rwa [storeGap_clearLatch_journal]

theorem journalTeardownEvent_served {s : State} {q : Port} {sub : Subscription} {k : Nat} {e : JournalEntry}
    (h : s.journal.Awaits q sub k e) (p : Port) : (journalTeardownEvent p s).journal.Served q sub e := by
  unfold journalTeardownEvent
  split
  · dsimp only
    split
    · exact removal_served (s := s.hear .journal _) h
    · exact .inl h.mem
  · exact .inl h.mem

/-- The entry awaited stands as far from the tail as its place in the ring says. -/
theorem Journal.Awaits.position_eq {j : Journal} {p : Port} {sub : Subscription} {k : Nat} {e : JournalEntry}
    (h : j.Awaits p sub k e) (sound : j.Sound) :
    (e.seq - sub.cursor).toNat = k - j.position sub.cursor ∧ k < j.ring.length := by
  have seq := consecutive_getElem? sound.numbers h.entry
  have inside := (List.getElem?_eq_some_iff.1 h.entry).1
  have capacity := sound.capacity
  have ahead := h.ahead
  simp only [Config.journalCapacity] at capacity
  simp only [Journal.position] at ahead ⊢
  refine ⟨?_, inside⟩
  rw [seq]
  bv_omega

/-- READ's own cursor passes an entry or leaves it awaited. -/
theorem readRequest_served {s : State} (ok : s.journal.Ok) {q : Port} {sub : Subscription} {k : Nat} {e : JournalEntry}
    (h : s.journal.Awaits q sub k e) (p : Port) (payload : List Byte) :
    (readRequest p payload s).1.journal.Served q sub e := by
  have sound := (Journal.ok_iff.1 ok).1
  unfold readRequest
  split
  · exact .inl h.mem
  next n _ =>
  split
  · exact .inl h.mem
  next mine hmine =>
  by_cases hpq : p = q
  · subst hpq
    cases hmine.symm.trans h.subscribed
    obtain ⟨distance, inside⟩ := h.position_eq sound
    obtain ⟨m, examined⟩ : ∃ m, (examine sub.mask n (s.journal.fromCursor sub.cursor)).2 = m := ⟨_, rfl⟩
    dsimp only
    rw [examined]
    have within : m ≤ s.journal.ring.length - s.journal.position sub.cursor := by
      have := examine_le sub.mask n (s.journal.fromCursor sub.cursor)
      rwa [examined, Journal.fromCursor, List.length_drop] at this
    have place := position_add sound (c := sub.cursor) (k := m) (by have := h.ahead; omega)
    by_cases reached : s.journal.position sub.cursor + m ≤ k
    · have awaits : (s.setSub p (some { sub with cursor := sub.cursor + BitVec.ofNat 32 m })).journal.Awaits p
          { sub with cursor := sub.cursor + BitVec.ofNat 32 m } k e :=
        { subscribed := (subs_set ..).trans (if_pos rfl), keep := h.keep, entry := h.entry, ahead := place.trans_le reached,
          hits := h.hits }
      exact .inl (by rw [settleRead_ring]; exact mem_storeGap awaits)
    · have passed : (storeGap (s.setSub p (some { sub with cursor := sub.cursor + BitVec.ofNat 32 m }))).sub p =
          some { sub with cursor := sub.cursor + BitVec.ofNat 32 m } := by
        refine storeGap_sub_of_behind (State.sub_setSub_self ..) fun hc => ?_
        have hc : sub.cursor + BitVec.ofNat 32 m = s.journal.tailSeq := hc
        rw [hc, Journal.Sound.position_tail] at place
        omega
      have far : (e.seq - sub.cursor).toNat < (sub.cursor + BitVec.ofNat 32 m - sub.cursor).toNat := by
        have := sound.capacity
        simp only [Config.journalCapacity] at this
        rw [distance]
        have := h.ahead
        have : (sub.cursor + BitVec.ofNat 32 m - sub.cursor).toNat = m := by bv_omega
        omega
      refine .inr (.inr ?_)
      rcases settleRead_sub p p (examine sub.mask n (s.journal.fromCursor sub.cursor)).1
        (storeGap (s.setSub p (some { sub with cursor := sub.cursor + BitVec.ofNat 32 m }))) with same | ⟨x, hx, same⟩
      · exact ⟨_, same.trans passed, far⟩
      · cases hx.symm.trans passed
        exact ⟨_, same, far⟩
  · exact .inl (by rw [settleRead_ring]; exact mem_storeGap (setSub_awaits h hpq _))

theorem takeOffer_served {s : State} {q : Port} {sub : Subscription} {k : Nat} {e : JournalEntry}
    (h : s.journal.Awaits q sub k e) (o : OfferBody) : (takeOffer o s).journal.Served q sub e := by
  refine .inl ?_
  unfold takeOffer
  split
  · split
    · next room =>
      rw [storeEntry_journal]
      rcases room with room | free
      · rw [Journal.makeRoom, if_neg (Nat.not_le.2 room)]
        exact List.mem_append_left _ h.mem
      · exact h.mem_store free _
    · exact h.mem
  · exact h.mem

theorem subscribeRequest_ring (p : Port) (payload : List Byte) (s : State) :
    (subscribeRequest p payload s).1.journal.ring = s.journal.ring := by
  unfold subscribeRequest
  split
  · rfl
  · split <;> rfl

theorem takeRequest_served {k' : ReqKind} {agent : Agent} {p : Port} {body : List Byte → State → State × Answer} {s : State}
    {q : Port} {sub : Subscription} {k : Nat} {e : JournalEntry} (h : s.journal.Awaits q sub k e)
    (done : ∀ payload t, t.journal = s.journal → (body payload t).1.journal.Served q sub e) :
    (takeRequest k' agent p body s).journal.Served q sub e := by
  rcases takeRequest_cases k' agent p body s with same | ⟨payload, clk, -, same⟩
  · rw [same]
    exact .inl h.mem
  · have served := done payload (s.hear agent clk) rfl
    rw [same]
    simpa using served

theorem reset_served (q : Port) (sub : Subscription) (e : JournalEntry) : State.reset.journal.Served q sub e :=
  .inr (.inl (by simp [State.reset]))

theorem exec_served {i : Instr} {s t : State} (hi : exec i s = .next t) (ok : s.journal.Ok) {q : Port} {sub : Subscription}
    {k : Nat} {e : JournalEntry} (h : s.journal.Awaits q sub k e) : t.journal.Served q sub e := by
  cases i <;> obtain rfl := Host.Outcome.next.inj hi
  case resetEntry n => rcases resetEntry_eq n s with r | r <;> rw [r]; exacts [.inl h.mem, reset_served q sub e]
  case resetRelease pins => rcases resetRelease_eq pins s with r | r <;> rw [r]; exacts [.inl h.mem, reset_served q sub e]
  case powerApplied => exact reset_served q sub e
  case subscribe p =>
    exact takeRequest_served h fun x t ht => .inl (by rw [subscribeRequest_ring, ht]; exact h.mem)
  case unsubscribe p => exact takeRequest_served h fun x t ht => unsubscribeRequest_served (ht ▸ h) p x
  case read p => exact takeRequest_served h fun x t ht => readRequest_served (ht ▸ ok) (ht ▸ h) p x
  case journalOffer src =>
    unfold journalOfferEvent
    split
    · exact .inl h.mem
    · refine takeOffer_served (k := k) ?_ _
      exact h
  case journalTeardown p => exact journalTeardownEvent_served h p
  all_goals exact .inl (by simpa [takeScheduleRequest, apply_ite State.journal] using h.mem)

/-- Settles O60: an entry is dropped from the tail alone, when no KEEP subscription needs it, and an entry awaited at the tail is needed. -/
theorem keepReaderLosesNoEntry : Obligations.KeepReaderLosesNoEntry := by
  intro s t p sub k e ok hstep hs hm he hp hh
  have awaits : s.journal.Awaits p sub k e := ⟨hs, hm, he, hp, hh⟩
  rcases step_cases hstep with ⟨i, l, h⟩ | rfl
  · exact exec_served h ok awaits
  · exact .inl (by simpa using awaits.mem)

end Sys2Proof.Machine
end

section
/-! PROOFS. The clock and the Timebase: what a step runs, what the periods count to, and what each event and request of the Timebase does. -/

namespace Sys2Proof.Machine

/-! ### One step -/

/-- Settles O1: the queue of commands decides, and on an empty queue the clock. -/
theorem stepRunsFrontCommandOrClock : Obligations.StepRunsFrontCommandOrClock := by
  refine ⟨fun c rest s h => by simp [step, h], fun s h => ⟨fun c hc => ?_, fun hn hr => ?_, fun hn hr => ?_⟩⟩
  · simp [step, idle, h, hc]
  · simp [step, idle, h, hn, clockPeriod, hr]
  · refine ⟨clockPeriod s, by simp [step, idle, h, hn], ?_⟩
    exact ⟨by rw [clockPeriod, if_neg (by simp [hr])], clockPeriod_line hr⟩

/-! ### Counting periods -/

/-- The periods change neither the pace nor TDIV. -/
theorem repeat_clocked_pace (n : Nat) (tb : Timebase) :
    (Nat.repeat Timebase.clocked n tb).mode = tb.mode ∧
      (Nat.repeat Timebase.clocked n tb).creepHolding = tb.creepHolding ∧
      (Nat.repeat Timebase.clocked n tb).tdiv = tb.tdiv := by
  induction n with
  | zero => exact ⟨rfl, rfl, rfl⟩
  | succ n ih => exact ih

theorem repeat_clocked_running (n : Nat) (tb : Timebase) : (Nat.repeat Timebase.clocked n tb).running = tb.running := by
  obtain ⟨mode, holding, -⟩ := repeat_clocked_pace n tb
  simp only [Timebase.running, mode, holding]

theorem repeat_clocked_wall {tb : Timebase} (count : tb.wallPrescale = 0) (due : tb.wallTickDue = false) {n : Nat} (hn : n ≤ 1023) :
    (Nat.repeat Timebase.clocked n tb).wallPrescale = n ∧ (Nat.repeat Timebase.clocked n tb).wallTickDue = false := by
  induction n with
  | zero => exact ⟨count, due⟩
  | succ n ih =>
    obtain ⟨count, due⟩ := ih (by omega)
    have h : ¬ 1023 ≤ n := by omega
    simp only [Nat.repeat, Timebase.clocked, count, due, Config.wallPrescaleLast]
    simp [h, Nat.lt_of_not_le h]

theorem repeat_clocked_mach {tb : Timebase} (runs : tb.running = true) (count : tb.machPrescale = 0)
    (due : tb.machTickDue = false) {n : Nat} (hn : n < tb.tdiv) :
    (Nat.repeat Timebase.clocked n tb).machPrescale = n ∧ (Nat.repeat Timebase.clocked n tb).machTickDue = false := by
  induction n with
  | zero => exact ⟨count, due⟩
  | succ n ih =>
    obtain ⟨count, due⟩ := ih (by omega)
    obtain ⟨-, -, tdiv⟩ := repeat_clocked_pace n tb
    have runs := (repeat_clocked_running n tb).trans runs
    simp only [Nat.repeat, Timebase.clocked, count, due, tdiv, runs]
    simp [hn]

theorem repeat_clocked_hold {tb : Timebase} (mode : tb.mode = .creep) (holds : tb.creepHolding = true)
    (due : tb.holdEndDue = false) {n : Nat} (hn : n < tb.holdCount) :
    (Nat.repeat Timebase.clocked n tb).holdCount = tb.holdCount - n ∧
      (Nat.repeat Timebase.clocked n tb).holdEndDue = false := by
  induction n with
  | zero => exact ⟨rfl, due⟩
  | succ n ih =>
    obtain ⟨count, due⟩ := ih (by omega)
    obtain ⟨mode', holds', -⟩ := repeat_clocked_pace n tb
    have h : 1 < tb.holdCount - n := by omega
    simp only [Nat.repeat, Timebase.clocked, count, due, mode', holds', mode, holds]
    simp [h, Nat.sub_sub, Nat.add_comm, hn]

/-- Settles O2: each count is followed up to its last value; the period after that one brings the event. -/
theorem clockCountsPeriods : Obligations.ClockCountsPeriods := by
  refine fun tb => ⟨fun count due => ⟨fun n hn => repeat_clocked_wall count due hn, ?_⟩,
    fun runs count due tdiv => ⟨fun n hn => repeat_clocked_mach runs count due hn, ?_⟩,
    fun mode holds due length => ⟨fun n hn => repeat_clocked_hold mode holds due hn, ?_⟩⟩
  · obtain ⟨last, -⟩ := repeat_clocked_wall count due (Nat.le_refl 1023)
    change (Timebase.clocked (Nat.repeat Timebase.clocked 1023 tb)).wallTickDue = true
    simp [Timebase.clocked, last, Config.wallPrescaleLast]
  · obtain ⟨k, hk⟩ : ∃ k, tb.tdiv = k + 1 := ⟨tb.tdiv - 1, by omega⟩
    obtain ⟨last, -⟩ := repeat_clocked_mach runs count due (n := k) (by omega)
    obtain ⟨-, -, tdiv⟩ := repeat_clocked_pace k tb
    have runs := (repeat_clocked_running k tb).trans runs
    rw [hk]
    simp [Nat.repeat, Timebase.clocked, last, runs, tdiv, hk]
  · obtain ⟨k, hk⟩ : ∃ k, tb.holdCount = k + 1 := ⟨tb.holdCount - 1, by omega⟩
    obtain ⟨last, -⟩ := repeat_clocked_hold mode holds due (n := k) (by omega)
    obtain ⟨mode', holds', -⟩ := repeat_clocked_pace k tb
    rw [hk]
    simp [Nat.repeat, Timebase.clocked, last, mode', holds', mode, holds, hk]

/-! ### The two times -/

theorem tickReady_iff {s : State} : s.tickReady = true ↔ s.tb.running = true ∧ s.tb.timeEndDue = false ∧
    s.tb.boundaryWaits = false ∧ s.tb.machTime < Config.lastMachTime ∧ s.tickDone = true := by
  simp [State.tickReady, and_assoc]

/-- Settles O3: outside the reset state and in the running condition each tick adds 1 to its time. -/
theorem ticksAdvanceTheTwoTimes : Obligations.TicksAdvanceTheTwoTimes := by
  refine ⟨fun s h => ?_, fun s runs timeEnd boundary early done => ?_⟩
  · simp [exec, execWallTick, wallTickEvent, h, Config.wallModulus]
  · have event : machineTickEvent s = _ := if_pos (tickReady_iff.2 ⟨runs, timeEnd, boundary, early, done⟩)
    refine ⟨machineTickEvent s, rfl, ?_⟩
    rw [event]
    refine ⟨rfl, rfl, ?_, ?_, rfl, fun c => mapRecords_get _ _ c⟩
    · simp [Timebase.afterTick, Config.lastMachTime]
    · simp [Timebase.afterTick, Config.lastMachTime, and_assoc]

/-! ### Events of the pace -/

/-- The PACE notice of a pace that has become HOLD: mode and pending steps after are 0 (R12). -/
theorem paceNotice_of_hold {tb : Timebase} (mode : tb.mode = .hold) (steps : tb.pendingSteps = 0) (before : PaceMode) (cause : PaceCause) :
    paceNotice tb before cause = ⟨.pace, 0, before.code * 65536 + cause.code * 256, tb.machTime⟩ := by
  simp [paceNotice, mode, steps, PaceMode.code]

/-- Settles O4: a boundary that a tick has left uses a step or begins a hold, and the hold's end begins a run phase. -/
theorem boundariesEndStepsAndCreepRuns : Obligations.BoundariesEndStepsAndCreepRuns := by
  refine ⟨fun s boundary mode => ⟨fun two => ?_, fun last => ?_⟩, fun s mode => ⟨fun boundary => ?_, fun holds => ?_⟩⟩
  · simp [exec, execStepBoundary, stepBoundaryEvent, boundary, mode, two]
  · have event : stepBoundaryEvent s = ({ s with tb := s.tb.toHold } : State).postPace .step .stepsDone := by
      rw [stepBoundaryEvent, if_pos ⟨boundary, mode⟩, if_neg (by omega)]
    refine ⟨stepBoundaryEvent s, rfl, ?_⟩
    rw [event]
    refine ⟨by apply State.eq_of_fields <;> simp, by simp [Timebase.toHold], ?_⟩
    exact (posted_postPace _ _ _).congr rfl (fun _ => rfl) rfl
  · simp [exec, execCreepHoldStart, creepHoldStartEvent, boundary, mode]
  · simp [exec, execCreepHoldEnd, creepHoldEndEvent, mode, holds]

/-- Settles O5: whatever the pace was, the event puts it at HOLD and posts both notices. -/
theorem timeEndHoldsAndReports : Obligations.TimeEndHoldsAndReports := by
  intro s due
  have event : timeEndEvent s =
      ({ s with tb := { s.tb.toHold with timeEndDue := false } } : State).postTimeEnd s.tb.mode := if_pos due
  refine ⟨timeEndEvent s, rfl, ?_⟩
  rw [event]
  refine ⟨by apply State.eq_of_fields <;> simp, by simp [Timebase.toHold], ?_⟩
  have posted := (posted_postTimeEnd ({ s with tb := { s.tb.toHold with timeEndDue := false } } : State) s.tb.mode).congr
    (s' := s) rfl (fun _ => rfl) rfl
  rw [paceNotice_of_hold rfl rfl] at posted
  exact posted

/-! ### Requests taken by a block -/

section
variable {k : ReqKind} {agent : Agent} {p : Port} {body : List Byte → State → State × Answer} {s : State}
  {payload : List Byte} {clk : Clock}

/-- A request that a block takes without touching a port: what it answers and what it leaves. -/
theorem request_taken (h : s.handedRequest p k = some (payload, clk)) {u : State} {a : Answer}
    (does : body payload (s.hear agent clk) = (u, a)) (ports : u.ports = s.ports) :
    s.Answered (takeRequest k agent p body s) p a ∧
      takeRequest k agent p body s = { u with ports := (takeRequest k agent p body s).ports } := by
  have spec := takeRequest_spec (agent := agent) (body := body) h (by rw [does]; exact ports)
  rwa [does] at spec

/-- A request that a block answers without changing anything of its own. -/
theorem request_answered (h : s.handedRequest p k = some (payload, clk)) {a : Answer}
    (does : body payload (s.hear agent clk) = (s.hear agent clk, a)) :
    s.Answered (takeRequest k agent p body s) p a ∧
      takeRequest k agent p body s =
        { s with clocks := (takeRequest k agent p body s).clocks, ports := (takeRequest k agent p body s).ports } := by
  obtain ⟨answered, left⟩ := request_taken h does rfl
  refine ⟨answered, ?_⟩
  rw [left]
  rfl

theorem request_refused (h : s.handedRequest p k = some (payload, clk)) {code : ReplyCode}
    (does : body payload (s.hear agent clk) = (s.hear agent clk, refuse code)) :
    s.Refused (takeRequest k agent p body s) p code :=
  request_answered h does

end

/-! ### The requests of the coordinator (R10) -/

theorem paceRequest_none {payload : List Byte} (h : paceArgs payload = none) (p : Port) (s : State) :
    paceRequest p payload s = (s, refuse .badArg) := by simp [paceRequest, h]

theorem paceRequest_notHolder {payload : List Byte} {mode : PaceMode} {factor : Nat} (h : paceArgs payload = some (mode, factor))
    {p : Port} {s : State} (other : s.isCoordinator p = false) : paceRequest p payload s = (s, refuse .notHolder) := by
  simp [paceRequest, h, other]

theorem paceRequest_badPace {payload : List Byte} {mode : PaceMode} {factor : Nat} (h : paceArgs payload = some (mode, factor))
    {p : Port} {s : State} (holder : s.isCoordinator p = true) (none : s.tb.pace mode factor = none) :
    paceRequest p payload s = (s, refuse .badPace) := by
  simp [paceRequest, h, holder, none]

theorem paceRequest_taken {payload : List Byte} {mode : PaceMode} {factor : Nat} (h : paceArgs payload = some (mode, factor))
    {p : Port} {s : State} (holder : s.isCoordinator p = true) {tb : Timebase} (some : s.tb.pace mode factor = some tb) :
    paceRequest p payload s =
      (if tb.mode = s.tb.mode then { s with tb := tb } else ({ s with tb := tb } : State).postPace s.tb.mode .request, okEmpty) := by
  simp [paceRequest, h, holder, some]

theorem setclockRequest_none {payload : List Byte} (h : setclockArgs payload = none) (p : Port) (s : State) :
    setclockRequest p payload s = (s, refuse .badArg) := by simp [setclockRequest, h]

theorem setclockRequest_some {payload : List Byte} {tdiv cycle : Nat} (h : setclockArgs payload = some (tdiv, cycle))
    (p : Port) (s : State) : setclockRequest p payload s =
      if s.isCoordinator p then
        if s.tb.mode = .hold then ({ s with tb := { s.tb with tdiv := tdiv, cycle := cycle } }, okEmpty)
        else (s, refuse .badPace)
      else (s, refuse .notHolder) := by simp [setclockRequest, h]

theorem settimeRequest_of_holder (payload : List Byte) {p : Port} {s : State} (holder : s.isCoordinator p = true) :
    settimeRequest p payload s =
      if s.tb.mode = .hold then ({ s with tb := { s.tb with machTime := settimeArg payload } }, okEmpty)
      else (s, refuse .badPace) := by
  simp [settimeRequest, holder]

/-- What a restricted request answers before it looks at anything else (R10): BAD_ARG for arguments out of range, then NOT_HOLDER. -/
theorem restricted_refused {α : Type} {k : ReqKind} {agent : Agent} {p : Port} {body : List Byte → State → State × Answer} {s : State}
    {payload : List Byte} {clk : Clock} {args : Option α} [Decidable (args = none)] (h : s.handedRequest p k = some (payload, clk))
    (refused : args = none ∨ s.isCoordinator p = false)
    (badArg : args = none → ∀ t, body payload t = (t, refuse .badArg))
    (notHolder : ∀ x, args = some x → ∀ t : State, t.isCoordinator p = false → body payload t = (t, refuse .notHolder)) :
    s.Refused (takeRequest k agent p body s) p (if args = none then .badArg else .notHolder) := by
  by_cases none : args = none
  · rw [if_pos none]
    exact request_refused h (badArg none _)
  · obtain ⟨x, hx⟩ := Option.ne_none_iff_exists'.1 none
    rw [if_neg none]
    exact request_refused h (notHolder x hx _ (refused.resolve_left none))

/-- Settles O8: each of the seven looks at its arguments first and at the holder of T second. -/
theorem restrictedRequestsNeedTheTimeline : Obligations.RestrictedRequestsNeedTheTimeline := by
  refine fun p s payload clk => ⟨fun h r => ⟨_, rfl, ?pace⟩, fun h r => ⟨_, rfl, ?setclock⟩, fun h due r => ⟨_, rfl, ?settime⟩,
    fun h r => ⟨_, rfl, ?lineConfig⟩, fun h r => ⟨_, rfl, ?tripConfig⟩, fun h r => ⟨_, rfl, ?arm⟩, fun h r => ⟨_, rfl, ?disarm⟩⟩
  case pace =>
    exact restricted_refused h r (fun e t => paceRequest_none e p t) fun x e t other => paceRequest_notHolder e other
  case setclock =>
    exact restricted_refused h r (fun e t => setclockRequest_none e p t)
      fun x e t other => by simp [setclockRequest_some e, other]
  case settime =>
    rw [if_neg (show ¬ s.tb.timeEndDue = true by simp [due])]
    exact request_refused h (by simp [settimeRequest, r])
  case lineConfig =>
    exact restricted_refused h r (fun e t => by simp [lineConfigRequest, e])
      fun x e t other => by simp [lineConfigRequest, e, other]
  case tripConfig =>
    exact restricted_refused h r (fun e t => by simp [tripConfigRequest, e])
      fun x e t other => by simp [tripConfigRequest, e, other]
  case arm =>
    exact restricted_refused h r (fun e t => by simp [armRequest, e]) fun x e t other => by simp [armRequest, e, other]
  case disarm =>
    exact restricted_refused h r (fun e t => by simp [disarmRequest, e]) fun x e t other => by simp [disarmRequest, e, other]

/-- Settles O7: the coordinator's SETCLOCK and SETTIME look at the pace alone, and a TIME_END that waits holds SETTIME back. -/
theorem clockIsSetInHold : Obligations.ClockIsSetInHold := by
  refine fun p s payload clk holder => ⟨fun tdiv cycle h args => ⟨_, rfl, ?_⟩, fun h due => ⟨_, rfl, ?_⟩, fun due => ?_⟩
  · have does := (setclockRequest_some args p (s.hear .timebase clk)).trans (if_pos (by simpa using holder))
    by_cases hold : s.tb.mode = .hold
    · obtain ⟨answered, left⟩ := request_taken h (does.trans (if_pos hold)) rfl
      rw [if_pos hold]
      exact ⟨answered, by rw [left]; rfl⟩
    · rw [if_neg hold]
      exact request_refused h (does.trans (if_neg hold))
  · have does := settimeRequest_of_holder payload (s := s.hear .timebase clk) (by simpa using holder)
    rw [if_neg (show ¬ s.tb.timeEndDue = true by simp [due])]
    by_cases hold : s.tb.mode = .hold
    · obtain ⟨answered, left⟩ := request_taken h (does.trans (if_pos hold)) rfl
      rw [if_pos hold]
      exact ⟨answered, by rw [left]; rfl⟩
    · rw [if_neg hold]
      exact request_refused h (does.trans (if_neg hold))
  · simp [exec, execSettime, due]

/-! ### PACE (R11, R12) -/

theorem running_ne_hold : (PaceMode.run != .hold) = true ∧ (PaceMode.step != .hold) = true ∧ (PaceMode.creep != .hold) = true := by
  decide

/-- What the table of PACE can change of the Timebase, and what goes with a change of mode. -/
theorem Timebase.pace_getD {tb tb' : Timebase} {mode : PaceMode} {factor : Nat} (h : tb' = (tb.pace mode factor).getD tb) :
    tb' = { tb with
      mode := tb'.mode, pendingSteps := tb'.pendingSteps, factor := tb'.factor, creepHolding := tb'.creepHolding,
      holdCount := tb'.holdCount, holdEndDue := tb'.holdEndDue, machPrescale := tb'.machPrescale,
      machTickDue := tb'.machTickDue, boundaryDue := tb'.boundaryDue } ∧
    (mode ≠ .creep → tb'.factor = tb.factor) ∧
    (tb'.mode ≠ tb.mode → tb'.mode = mode ∧
      tb'.creepHolding = false ∧ tb'.holdCount = 0 ∧ tb'.holdEndDue = false ∧ tb'.boundaryDue = false ∧
      tb'.machTickDue = (tb'.mode != .hold && tb.running && tb.machTickDue)) := by
  unfold Timebase.pace at h
  split at h
  · obtain rfl := h
    exact ⟨rfl, fun _ => rfl, fun ne => absurd rfl ne⟩
  · split at h <;> try split at h
    all_goals
      obtain rfl := h
      refine ⟨rfl, ?_, ?_⟩ <;> simp [Timebase.toHold, Timebase.toRunning, running_ne_hold, *]

/-- At the end of time every mode but HOLD is refused (R9, R11). -/
theorem Timebase.pace_of_last {tb : Timebase} {mode : PaceMode} (last : tb.machTime = 2 ^ 48 - 1 ∧ mode ≠ .hold) (factor : Nat) :
    tb.pace mode factor = none := if_pos last

/-- The answer of the table of PACE. -/
def paceAnswer : Option Timebase → Answer
  | none => refuse .badPace
  | some _ => okEmpty

/-- PACE from the coordinator with arguments in range: the table's answer, its new pace, and the notices of a change of mode. -/
theorem pace_taken {p : Port} {s : State} {payload : List Byte} {clk : Clock} {mode : PaceMode} {factor : Nat}
    (h : s.handedRequest p .pace = some (payload, clk)) (args : paceArgs payload = some (mode, factor))
    (holder : s.isCoordinator p = true) :
    ∃ t, exec (.pace p) s = .next t ∧
      t = { s with tb := t.tb, clocks := t.clocks, posts := t.posts, ports := t.ports } ∧
      s.Answered t p (paceAnswer (s.tb.pace mode factor)) ∧ t.tb = (s.tb.pace mode factor).getD s.tb ∧
      s.Posted t (if t.tb.mode = s.tb.mode then [] else
        s.openPorts.map fun q => (.timebase, q, paceNotice t.tb s.tb.mode .request)) := by
  refine ⟨_, rfl, ?_⟩
  cases pace : s.tb.pace mode factor with
  | none =>
    obtain ⟨answered, left⟩ := request_answered (agent := .timebase) h (paceRequest_badPace args (by simpa using holder) pace)
    refine ⟨by rw [left], answered, by rw [left]; rfl, ?_⟩
    rw [left, if_pos rfl]
    exact .nil rfl
  | some tb =>
    have does := paceRequest_taken args (s := s.hear .timebase clk) (by simpa using holder) pace
    by_cases same : tb.mode = s.tb.mode
    · obtain ⟨answered, left⟩ := request_taken h (does.trans (congrArg (·, okEmpty) (if_pos same))) rfl
      refine ⟨by rw [left]; rfl, answered, by rw [left]; rfl, ?_⟩
      rw [left, if_pos same]
      exact .nil rfl
    · obtain ⟨answered, left⟩ := request_taken h (does.trans (congrArg (·, okEmpty) (if_neg same))) (by simp)
      refine ⟨by rw [left]; apply State.eq_of_fields <;> simp, answered, by rw [left]; simp, ?_⟩
      rw [left]
      simp only [State.postPace_frame]
      rw [if_neg same]
      exact (posted_postPace _ _ _).congr rfl (fun _ => rfl) rfl

/-- Settles O6: the table of PACE decides, and a change of mode goes with what the table leaves of the count of periods. -/
theorem paceFollowsTable : Obligations.PaceFollowsTable := by
  intro p s payload clk mode factor h args holder
  obtain ⟨t, run, left, answered, tb, posted⟩ := pace_taken h args holder
  obtain ⟨frame, kept, change⟩ := Timebase.pace_getD tb
  refine ⟨t, run, left, ?answer, ?posted, frame, kept, fun ne => (change ne).2, ?table⟩
  case table =>
    by_cases last : s.tb.machTime = 2 ^ 48 - 1 ∧ mode ≠ .hold
    · rw [if_pos last]
      simpa [Timebase.pace_of_last last, paceAnswer] using answered
    rw [if_neg last]
    unfold Timebase.pace at answered tb
    rw [if_neg (show ¬ (s.tb.machTime = Config.lastMachTime ∧ mode ≠ .hold) from last)] at answered tb
    generalize before : s.tb.mode = old at answered tb ⊢
    clear h args holder left posted run last frame kept change
    cases mode <;> cases old
    case step.step =>
      by_cases room : s.tb.pendingSteps < 15
      · have room' : s.tb.pendingSteps < Config.maxSteps := room
        simpa [room, room', before, paceAnswer] using And.intro answered tb
      · have room' : ¬ s.tb.pendingSteps < Config.maxSteps := room
        simpa [room, room', paceAnswer] using answered
    all_goals simp [Timebase.toHold, Timebase.toRunning, Timebase.running, paceAnswer, before] at answered tb ⊢
    case run.creep => cases holds : s.tb.creepHolding <;> simp [answered, tb, holds]
    all_goals simp [answered, tb]
  case answer =>
    cases pace : s.tb.pace mode factor with
    | none => exact .inr ⟨by simpa [pace, paceAnswer] using answered, by simpa [pace] using tb⟩
    | some tb' => exact .inl (by simpa [pace, paceAnswer] using answered)
  case posted =>
    by_cases same : t.tb.mode = s.tb.mode
    · simpa [same] using posted
    · have time : t.tb.machTime = s.tb.machTime := by rw [frame]
      rw [if_neg same] at posted ⊢
      simpa only [paceNotice, PaceCause.code, (change same).1, time, Nat.zero_mul, Nat.add_zero] using posted

end Sys2Proof.Machine
end

section
/-! PROOFS. Bytes and fields: what a field of a payload reads back, and the snapshots the blocks answer with. -/

namespace Sys2Proof.Machine

/-! ### Numbers and their bytes -/

theorem numberOf_append (a b : List Byte) : numberOf (a ++ b) = numberOf a * 256 ^ b.length + numberOf b := by
  induction b using List.reverseRecOn with
  | nil => simp [numberOf]
  | append_singleton b x ih =>
    have snoc : ∀ l : List Byte, numberOf (l ++ [x]) = numberOf l * 256 + x.toNat := fun l => by simp [numberOf]
    rw [← List.append_assoc, snoc, snoc, ih, List.length_append, List.length_singleton, Nat.pow_succ]
    ring

@[simp] theorem length_bytesOf (len n : Nat) : (bytesOf len n).length = len := by
  induction len with
  | zero => rfl
  | succ len ih => simp [bytesOf, ih]

/-- Bytes spell the number that they were made of, as far as their width goes. -/
theorem numberOf_bytesOf (len n : Nat) : numberOf (bytesOf len n) = n % 256 ^ len := by
  induction len with
  | zero => simp [bytesOf, numberOf, Nat.mod_one]
  | succ len ih =>
    rw [bytesOf, ← List.singleton_append, numberOf_append, ih, length_bytesOf, Nat.pow_succ, Nat.mod_mul]
    simp [numberOf, Nat.mul_comm, Nat.add_comm]

/-! ### Fields -/

/-- A field inside the first part of a payload is read there. -/
theorem fieldOf_append_left {a : List Byte} {place len : Nat} (h : place + len ≤ a.length) (b : List Byte) :
    fieldOf (a ++ b) place len = fieldOf a place len := by
  rw [fieldOf, fieldOf, List.drop_append_of_le_length (by omega), List.take_append_of_le_length (by simp; omega)]

/-- A field past the first part of a payload is read in the rest. -/
theorem fieldOf_append_right {a : List Byte} {place : Nat} (h : a.length ≤ place) (len : Nat) (b : List Byte) :
    fieldOf (a ++ b) place len = fieldOf b (place - a.length) len := by
  rw [fieldOf, fieldOf, List.drop_append, List.drop_eq_nil_of_le h, List.nil_append]

@[simp] theorem fieldOf_bytesOf (len n : Nat) : fieldOf (bytesOf len n) 0 len = n % 256 ^ len := by
  rw [fieldOf, List.drop_zero, List.take_of_length_le (by simp), numberOf_bytesOf]

@[simp] theorem fieldOf_bytesOf_append (len n : Nat) (rest : List Byte) :
    fieldOf (bytesOf len n ++ rest) 0 len = n % 256 ^ len := by
  rw [fieldOf_append_left (by simp), fieldOf_bytesOf]

@[simp] theorem fieldOf_skip_bytesOf {k place : Nat} (h : k ≤ place) (n len : Nat) (rest : List Byte) :
    fieldOf (bytesOf k n ++ rest) place len = fieldOf rest (place - k) len := by
  rw [fieldOf_append_right (by simpa using h), length_bytesOf]

/-- A field of the `i`-th of several records of one length. -/
theorem fieldOf_flatMap {α : Type} {f : α → List Byte} {size : Nat} (hf : ∀ x, (f x).length = size) {l : List α} {i : Nat} {x : α}
    (hx : l[i]? = some x) {place len : Nat} (h : place + len ≤ size) :
    fieldOf (l.flatMap f) (size * i + place) len = fieldOf (f x) place len := by
  induction l generalizing i with
  | nil => simp at hx
  | cons y l ih =>
    rw [List.flatMap_cons]
    cases i with
    | zero =>
      obtain rfl : y = x := by simpa using hx
      rw [Nat.mul_zero, Nat.zero_add, fieldOf_append_left (by rw [hf]; exact h)]
    | succ i =>
      rw [fieldOf_append_right (by rw [hf, Nat.mul_succ]; omega), hf, ← ih (by simpa using hx)]
      congr 1
      rw [Nat.mul_succ]
      omega

theorem length_flatMap_of_length {α : Type} {f : α → List Byte} {size : Nat} (hf : ∀ x, (f x).length = size) (l : List α) :
    (l.flatMap f).length = size * l.length := by
  induction l with
  | nil => rfl
  | cons y l ih => rw [List.flatMap_cons, List.length_append, hf, ih, List.length_cons, Nat.mul_succ, Nat.add_comm]

@[simp] theorem bit_zero (b : Bool) : bit b 0 = if b then 1 else 0 := rfl

/-! ### The lengths of the records -/

@[simp] theorem length_claimBytes (s : State) (c : Claim) : (s.claimBytes c).length = 10 := by simp [State.claimBytes]

@[simp] theorem length_channelBytes (s : State) (c : Chan) : (s.channelBytes c).length = 6 := by
  cases h : (s.chan c).wave <;> simp [State.channelBytes, h]

@[simp] theorem length_lineBytes (s : State) (i : LineId) : (s.lineBytes i).length = 5 := by simp [State.lineBytes]

@[simp] theorem length_groupBytes (s : State) (g : GroupId) : (s.groupBytes g).length = 13 := by
  cases h : (s.group g).last <;> simp [State.groupBytes, h]

@[simp] theorem length_noticeBytes (n : Notice) : n.bytes.length = 12 := by simp [Notice.bytes]

theorem length_timePayload (s : State) : s.timePayload.length = 23 := by simp [State.timePayload]

theorem length_schedulePayload (s : State) (p : Port) : (s.schedulePayload p).length = 11 := by
  cases h : s.sched.entries.find? fun e => e.owner == p <;> simp [State.schedulePayload, h]

theorem length_queryPayload (s : State) (e : Entry) : (s.queryPayload e).length = 11 := by
  rcases h : e.rep with _ | ⟨_, _ | _⟩ <;> simp [State.queryPayload, h]

theorem length_leasesPayload (s : State) (r : ResId) : (s.leasesPayload r).length = 15 + 10 * (s.lease r).queue.length := by
  cases h : (s.lease r).holder <;>
    simp [State.leasesPayload, h, length_flatMap_of_length (length_claimBytes s), -List.length_flatMap] <;>
    omega

/-! ### What the snapshots read back (R188) -/

/-- A value that fits its width reads back as it is. -/
theorem fits {n len : Nat} (h : n < 256 ^ len) : n % 256 ^ len = n := Nat.mod_eq_of_lt h

theorem PaceMode.code_lt (m : PaceMode) : m.code < 256 := by cases m <;> decide

theorem timePayload_fields {s : State} (ok : s.tb.Ok) :
    fieldOf s.timePayload 0 6 = s.tb.machTime ∧ fieldOf s.timePayload 6 6 = s.tb.wallTime ∧
    fieldOf s.timePayload 12 1 = s.tb.mode.code ∧ fieldOf s.timePayload 13 1 = (if s.tb.running then 1 else 0) ∧
    fieldOf s.timePayload 14 1 = s.tb.pendingSteps ∧ fieldOf s.timePayload 15 2 = s.tb.tdiv ∧
    fieldOf s.timePayload 17 4 = s.tb.cycle ∧ fieldOf s.timePayload 21 1 = s.tb.factor ∧
    fieldOf s.timePayload 22 1 = (match s.holder timeline with
      | some p => p.val
      | none => 255) := by
  have mach := ok.machTime
  have wall := ok.wallTime
  have mode := s.tb.mode.code_lt
  have tdiv := ok.tdiv
  have cycle := ok.cycle
  have factor := ok.factor
  have steps : s.tb.pendingSteps ≤ 15 := by
    have := ok.steps
    simp only [Config.maxSteps] at this
    split at this <;> omega
  simp only [Config.lastMachTime, Config.wallModulus] at mach wall
  simp only [State.timePayload, List.append_assoc]
  simp
  refine ⟨by omega, by omega, by omega, by split <;> omega, by omega, by omega, by omega, by omega, ?_⟩
  cases s.holder timeline with
  | none => rfl
  | some p => exact Nat.mod_eq_of_lt (show p.val < 256 by omega)

theorem finRange_getElem? {n : Nat} (i : Fin n) : (List.finRange n)[i.val]? = some i := by simp

theorem counts_of_ok {sc : Schedule} (ok : sc.Ok) (p : Port) : sc.counts[p] = (sc.ownedBy p).length := ok.counts p

theorem ownedBy_length_le {sc : Schedule} (ok : sc.Ok) (p : Port) : (sc.ownedBy p).length ≤ 64 := counts_of_ok ok p ▸ ok.quota p

theorem schedulePayload_fields {s : State} (ok : s.sched.Ok) (p : Port) :
    let x := s.schedulePayload p
    fieldOf x 0 1 = s.sched.entries.length ∧ fieldOf x 1 1 = (s.sched.ownedBy p).length ∧
    fieldOf x 2 1 = 192 - s.sched.entries.length ∧ fieldOf x 3 1 = 64 - (s.sched.ownedBy p).length ∧
    (s.sched.ownedBy p = [] → fieldOf x 4 1 = 0 ∧ fieldOf x 5 6 = 0) ∧
    (s.sched.ownedBy p ≠ [] → fieldOf x 4 1 = 1 ∧ (∃ e ∈ s.sched.ownedBy p, fieldOf x 5 6 = e.due) ∧
      ∀ e ∈ s.sched.ownedBy p, fieldOf x 5 6 ≤ e.due) := by
  have capacity := ok.capacity
  have quota := ownedBy_length_le ok p
  simp only [Config.scheduleCapacity] at capacity
  simp only [State.schedulePayload, List.append_assoc, counts_of_ok ok, Config.scheduleCapacity, Config.portQuota]
  simp
  refine ⟨by omega, by omega, by omega, by omega, ?_⟩
  have order : (s.sched.ownedBy p).Pairwise Entry.before := ok.order.sublist List.filter_sublist
  have due : ∀ e ∈ s.sched.ownedBy p, e.due < 256 ^ 6 := fun e he => by
    have := ok.due e (List.mem_of_mem_filter he)
    simp only [Config.lastMachTime] at this
    omega
  have found : s.sched.entries.find? (fun e => e.owner == p) = (s.sched.ownedBy p).head? := List.head?_filter.symm
  cases own : s.sched.ownedBy p with
  | nil =>
    rw [own] at found
    simp [found]
  | cons e rest =>
    rw [own] at found order due
    have first : e.due < 281474976710656 := due e List.mem_cons_self
    have least : ∀ x ∈ rest, e.due ≤ x.due := fun x hx => by
      rcases (List.pairwise_cons.1 order).1 x hx with h | h
      · exact h.le
      · exact h.1.le
    simp [found, Nat.mod_eq_of_lt first]
    exact least

/-- The code of a channel's state (R51, R188). -/
theorem Channel.state_code (x : Channel) :
    x.state.code = if x.lockSet ≠ 0 then 3 else match x.wave.map Wave.kind with
      | none => 0
      | some .pulse => 1
      | some (.train _ _ _ _) => 2 := by
  unfold Channel.state
  by_cases locked : x.lockSet ≠ 0
  · rw [if_pos locked, if_pos locked]
    rfl
  · rw [if_neg locked, if_neg locked]
    cases x.wave with
    | none => rfl
    | some w => cases hk : w.kind <;> simp [hk, ChannelState.code]

theorem ChannelState.code_le (x : ChannelState) : x.code ≤ 3 := by cases x <;> decide

theorem channelsPayload_fields (s : State) (c : Chan) :
    let x := s.chan c
    let at_ := 6 * c.val
    fieldOf s.channelsPayload at_ 1 = (if x.level then 1 else 0) + (if x.safe then 2 else 0) +
      (if x.policy = .safe then 4 else 0) + 8 * (if x.lockSet ≠ 0 then 3 else match x.wave.map Wave.kind with
        | none => 0
        | some .pulse => 1
        | some (.train _ _ _ _) => 2) ∧
    fieldOf s.channelsPayload (at_ + 1) 1 = x.lockSet.toNat + 16 * (match s.chanHolder c with
      | some p => p.val
      | none => 15) ∧
    fieldOf s.channelsPayload (at_ + 2) 2 = (match x.wave with
      | none => 0
      | some w => w.tag % 2 ^ 16) ∧
    fieldOf s.channelsPayload (at_ + 4) 2 = (match x.wave.map Wave.kind with
      | some (.train _ _ _ done) => done % 2 ^ 16
      | _ => 0) := by
  have field : ∀ place len, place + len ≤ 6 → fieldOf s.channelsPayload (6 * c.val + place) len = fieldOf (s.channelBytes c) place len :=
    fun place len h => fieldOf_flatMap (length_channelBytes s) (finRange_getElem? c) h
  have lock : (s.chan c).lockSet.toNat < 16 := (s.chan c).lockSet.isLt
  refine ⟨(field 0 1 (by omega)).trans ?_, (field 1 1 (by omega)).trans ?_, (field 2 2 (by omega)).trans ?_,
    (field 4 2 (by omega)).trans ?_⟩
  · have code := (s.chan c).state.code_le
    rw [← Channel.state_code]
    simp only [State.channelBytes, List.append_assoc, fieldOf_bytesOf_append, bit, beq_iff_eq]
    exact Nat.mod_eq_of_lt (by split_ifs <;> omega)
  · simp only [State.channelBytes, List.append_assoc]
    simp
    cases s.chanHolder c with
    | none => dsimp only; omega
    | some p => have := p.isLt; dsimp only; omega
  · cases h : (s.chan c).wave <;> simp [State.channelBytes, h]
  · rcases h : (s.chan c).wave with _ | w
    · simp [State.channelBytes, h]
    · cases hk : w.kind <;> simp [State.channelBytes, h, hk]

theorem linesPayload_fields {s : State} {i : LineId} (ok : (s.line i).Ok) :
    let x := s.line i
    let at_ := 5 * i.val
    fieldOf s.linesPayload at_ 1 = (if x.raw then 1 else 0) + (if x.qualified then 2 else 0) +
      4 * (match x.mode with
        | .off => 0
        | .rise => 1
        | .fall => 2
        | .both => 3) + 16 * x.d ∧
    fieldOf s.linesPayload (at_ + 1) 1 = x.q ∧ fieldOf s.linesPayload (at_ + 2) 2 = x.stable ∧
    fieldOf s.linesPayload (at_ + 4) 1 = x.decim := by
  have field : ∀ place len, place + len ≤ 5 → fieldOf s.linesPayload (5 * i.val + place) len = fieldOf (s.lineBytes i) place len :=
    fun place len h => fieldOf_flatMap (length_lineBytes s) (finRange_getElem? i) h
  obtain ⟨q, d, stable, decim⟩ := ok
  have code : (s.line i).mode.code ≤ 3 := by cases (s.line i).mode <;> decide
  have power : 2 ^ (s.line i).d ≤ 2 ^ 7 := Nat.pow_le_pow_right (by decide) d
  refine ⟨(field 0 1 (by omega)).trans ?_, (field 1 1 (by omega)).trans ?_, (field 2 2 (by omega)).trans ?_,
    (field 4 1 (by omega)).trans ?_⟩
  · simp only [State.lineBytes, List.append_assoc, fieldOf_bytesOf_append, bit]
    exact Nat.mod_eq_of_lt (by split_ifs <;> omega)
  · simp [State.lineBytes]
    omega
  · simp [State.lineBytes]
    omega
  · simp [State.lineBytes]
    omega

theorem tripsPayload_fields {s : State} {g : GroupId} (ok : s.GroupOk g) :
    let x := s.group g
    let at_ := 13 * g.val
    fieldOf s.tripsPayload at_ 1 = (match x.state with
        | .disarmed => 0
        | .armed => 1
        | .tripped => 2) + (if x.active then 4 else 0) + (if x.last.isSome then 8 else 0) ∧
    fieldOf s.tripsPayload (at_ + 1) 2 = x.sources.toNat ∧ fieldOf s.tripsPayload (at_ + 3) 2 = x.channels.toNat ∧
    fieldOf s.tripsPayload (at_ + 5) 1 = (match x.last with
      | some (i, _) => i.val
      | none => 0) ∧
    fieldOf s.tripsPayload (at_ + 6) 6 = (match x.last with
      | some (_, time) => time % 2 ^ 48
      | none => 0) ∧
    fieldOf s.tripsPayload (at_ + 12) 1 = x.locksOut := by
  have field : ∀ place len, place + len ≤ 13 → fieldOf s.tripsPayload (13 * g.val + place) len = fieldOf (s.groupBytes g) place len :=
    fun place len h => fieldOf_flatMap (length_groupBytes s) (finRange_getElem? g) h
  have code : (s.group g).state.code ≤ 2 := by cases (s.group g).state <;> decide
  have sources : (s.group g).sources.toNat < 2 ^ 12 := (s.group g).sources.isLt
  have channels : (s.group g).channels.toNat < 2 ^ 16 := (s.group g).channels.isLt
  have locks := ok.atMost
  refine ⟨(field 0 1 (by omega)).trans ?_, (field 1 2 (by omega)).trans ?_, (field 3 2 (by omega)).trans ?_,
    (field 5 1 (by omega)).trans ?_, (field 6 6 (by omega)).trans ?_, (field 12 1 (by omega)).trans ?_⟩
  · simp only [State.groupBytes, List.append_assoc, fieldOf_bytesOf_append, bit]
    exact Nat.mod_eq_of_lt (by split_ifs <;> omega)
  · simp [State.groupBytes]
    omega
  · simp [State.groupBytes]
    omega
  · rcases h : (s.group g).last with _ | ⟨i, time⟩
    · simp [State.groupBytes, h]
    · have := i.isLt
      simp [State.groupBytes, h]
      omega
  · rcases h : (s.group g).last with _ | ⟨i, time⟩ <;> simp [State.groupBytes, h]
  · rcases h : (s.group g).last with _ | ⟨i, time⟩ <;> simp [State.groupBytes, h] <;> omega

/-- No port waits twice, so at most four wait. -/
theorem Lease.Ok.queue_length_le {x : Lease} (ok : x.Ok) : x.queue.length ≤ 4 := by
  have once : (x.queue.map Claim.port).Nodup := List.pairwise_map.2 ok.once
  simpa using once.length_le_card

/-- The part of LEASES's payload before the queue (R188). -/
def State.leasesHead (s : State) (r : ResId) : List Byte :=
  let x := s.lease r
  bytesOf 1 (portCode x.holder)
    ++ (match x.holder with
        | some _ => bytesOf 6 x.grantWall ++ bytesOf 3 (cap24 (s.wallSince x.grantWall)) ++ bytesOf 3 x.holdLimit
        | none => bytesOf 6 0 ++ bytesOf 3 0 ++ bytesOf 3 0)
    ++ bytesOf 1 (match x.ending with
        | some e => e.cause.code
        | none => 0)
    ++ bytesOf 1 x.queue.length

theorem leasesPayload_eq (s : State) (r : ResId) :
    s.leasesPayload r = s.leasesHead r ++ (s.lease r).queue.flatMap s.claimBytes := rfl

@[simp] theorem length_leasesHead (s : State) (r : ResId) : (s.leasesHead r).length = 15 := by
  cases h : (s.lease r).holder <;> simp [State.leasesHead, h]

theorem leasesPayload_fields {s : State} (ok : s.LeasesOk) (r : ResId) :
    let x := s.lease r
    let y := s.leasesPayload r
    (x.holder = none → fieldOf y 0 1 = 255 ∧ fieldOf y 1 6 = 0 ∧ fieldOf y 7 3 = 0 ∧ fieldOf y 10 3 = 0) ∧
    (∀ p, x.holder = some p → fieldOf y 0 1 = p.val ∧ fieldOf y 1 6 = x.grantWall % 2 ^ 48 ∧
      fieldOf y 7 3 = min (s.wallSince x.grantWall) 16777215 ∧ fieldOf y 10 3 = x.holdLimit % 2 ^ 24) ∧
    fieldOf y 13 1 = (match x.ending.map Ending.cause with
      | none => 0
      | some .release => 1
      | some .revoke => 2
      | some .teardown => 3) ∧
    fieldOf y 14 1 = x.queue.length ∧
    ∀ k claim, x.queue[k]? = some claim →
      fieldOf y (15 + 10 * k) 1 = claim.port.val ∧ fieldOf y (16 + 10 * k) 3 = claim.hold % 2 ^ 24 ∧
      fieldOf y (19 + 10 * k) 3 = claim.wait % 2 ^ 24 ∧
      fieldOf y (22 + 10 * k) 3 = min (s.wallSince claim.since) 16777215 := by
  have head : ∀ place len, place + len ≤ 15 → fieldOf (s.leasesPayload r) place len = fieldOf (s.leasesHead r) place len :=
    fun place len h => by rw [leasesPayload_eq, fieldOf_append_left (by simpa using h)]
  have claims : ∀ k claim, (s.lease r).queue[k]? = some claim → ∀ place len, place + len ≤ 10 →
      fieldOf (s.leasesPayload r) (15 + place + 10 * k) len = fieldOf (s.claimBytes claim) place len := fun k claim hk place len h => by
    rw [leasesPayload_eq, fieldOf_append_right (by simp; omega), length_leasesHead,
      show 15 + place + 10 * k - 15 = 10 * k + place by omega]
    exact fieldOf_flatMap (length_claimBytes s) hk h
  have length := (ok.each r).queue_length_le
  refine ⟨fun none => ?_, fun p holder => ?_, ?_, ?_, fun k claim hk => ?_⟩
  · simp only [head _ _ (by decide : 0 + 1 ≤ 15), head _ _ (by decide : 1 + 6 ≤ 15), head _ _ (by decide : 7 + 3 ≤ 15),
      head _ _ (by decide : 10 + 3 ≤ 15)]
    simp [State.leasesHead, none, portCode]
  · have := p.isLt
    simp only [head _ _ (by decide : 0 + 1 ≤ 15), head _ _ (by decide : 1 + 6 ≤ 15), head _ _ (by decide : 7 + 3 ≤ 15),
      head _ _ (by decide : 10 + 3 ≤ 15)]
    simp [State.leasesHead, holder, portCode, cap24, Config.max24]
    omega
  · rw [head _ _ (by decide : 13 + 1 ≤ 15)]
    have field : fieldOf (s.leasesHead r) 13 1 = (match (s.lease r).ending with
        | some e => e.cause.code
        | none => 0) % 256 := by cases h : (s.lease r).holder <;> simp [State.leasesHead, h]
    rw [field]
    rcases (s.lease r).ending with _ | ⟨_ | _ | _, _, _, _⟩ <;> rfl
  · rw [head _ _ (by decide : 14 + 1 ≤ 15)]
    cases h : (s.lease r).holder <;> simp [State.leasesHead, h] <;> omega
  · have := claim.port.isLt
    have read := claims k claim hk
    refine ⟨(read 0 1 (by decide)).trans ?_, (read 1 3 (by decide)).trans ?_, (read 4 3 (by decide)).trans ?_,
      (read 7 3 (by decide)).trans ?_⟩
    all_goals simp [State.claimBytes, cap24, Config.max24]
    all_goals omega

/-! ### The snapshots are answered -/

theorem takeScheduleRequest_of_idle {k : ReqKind} {p : Port} {body : List Byte → State → State × Answer} {s : State}
    (h : s.scheduleBusy = false) : takeScheduleRequest k p body s = takeRequest k .schedule p body s :=
  if_neg (by simp [h])

theorem snapshots_answered (p : Port) (s : State) (payload : List Byte) (clk : Clock) :
      (s.handedRequest p .time = some (payload, clk) →
        ∃ t, exec (.time p) s = .next t ∧ s.Answered t p (okWith s.timePayload) ∧
          t = { s with clocks := t.clocks, ports := t.ports } ∧ s.timePayload.length = 23) ∧
      (s.handedRequest p .schedule = some (payload, clk) → s.scheduleBusy = false →
        ∃ t, exec (.schedule p) s = .next t ∧ s.Answered t p (okWith (s.schedulePayload p)) ∧
          t = { s with clocks := t.clocks, ports := t.ports } ∧ (s.schedulePayload p).length = 11) ∧
      (s.handedRequest p .channels = some (payload, clk) →
        ∃ t, exec (.channels p) s = .next t ∧ s.Answered t p (okWith s.channelsPayload) ∧
          t = { s with clocks := t.clocks, ports := t.ports } ∧ s.channelsPayload.length = 96) ∧
      (s.handedRequest p .lines = some (payload, clk) →
        ∃ t, exec (.lines p) s = .next t ∧ s.Answered t p (okWith s.linesPayload) ∧
          t = { s with clocks := t.clocks, ports := t.ports } ∧ s.linesPayload.length = 60) ∧
      (s.handedRequest p .trips = some (payload, clk) →
        ∃ t, exec (.trips p) s = .next t ∧ s.Answered t p (okWith s.tripsPayload) ∧
          t = { s with clocks := t.clocks, ports := t.ports } ∧ s.tripsPayload.length = 52) ∧
      (s.handedRequest p .ident = some (payload, clk) →
        ∃ t, exec (.ident p) s = .next t ∧
          s.Answered t p (okWith [0x46, 0x16, 0x12, 3, 4, 16, 12, 4, 192, 64, 0x02, 0x00]) ∧
          t = { s with clocks := t.clocks, ports := t.ports }) ∧
      (∀ r, s.handedRequest p .leases = some (payload, clk) → resourceArg payload = some r →
        ∃ t, exec (.leases p) s = .next t ∧ s.Answered t p (okWith (s.leasesPayload r)) ∧
          t = { s with clocks := t.clocks, ports := t.ports } ∧
          (s.leasesPayload r).length = 15 + 10 * (s.lease r).queue.length) ∧
      (s.handedRequest p .leases = some (payload, clk) → resourceArg payload = none →
        ∃ t, exec (.leases p) s = .next t ∧ s.Refused t p .badArg) := by
  refine ⟨fun h => ⟨_, rfl, ?time⟩, fun h idle => ⟨_, rfl, ?schedule⟩, fun h => ⟨_, rfl, ?channels⟩, fun h => ⟨_, rfl, ?lines⟩,
    fun h => ⟨_, rfl, ?trips⟩, fun h => ⟨_, rfl, ?ident⟩, fun r h arg => ⟨_, rfl, ?leases⟩, fun h arg => ⟨_, rfl, ?badArg⟩⟩
  case time =>
    have answered := request_answered (agent := .timebase) (body := timeRequest) h (a := okWith s.timePayload) rfl
    exact ⟨answered.1, answered.2, length_timePayload s⟩
  case schedule =>
    rw [takeScheduleRequest_of_idle idle]
    have answered := request_answered (agent := .schedule) (body := scheduleRequest p) h (a := okWith (s.schedulePayload p)) rfl
    exact ⟨answered.1, answered.2, length_schedulePayload s p⟩
  case channels =>
    have answered := request_answered (agent := .channels) (body := channelsRequest) h (a := okWith s.channelsPayload) rfl
    exact ⟨answered.1, answered.2, by rw [State.channelsPayload, length_flatMap_of_length (length_channelBytes s)]; simp⟩
  case lines =>
    have answered := request_answered (agent := .lines) (body := linesRequest) h (a := okWith s.linesPayload) rfl
    exact ⟨answered.1, answered.2, by rw [State.linesPayload, length_flatMap_of_length (length_lineBytes s)]; simp⟩
  case trips =>
    have answered := request_answered (agent := .groups) (body := tripsRequest) h (a := okWith s.tripsPayload) rfl
    exact ⟨answered.1, answered.2, by rw [State.tripsPayload, length_flatMap_of_length (length_groupBytes s)]; simp⟩
  case ident =>
    have payload : identPayload = [0x46, 0x16, 0x12, 3, 4, 16, 12, 4, 192, 64, 0x02, 0x00] := by decide
    rw [← payload]
    exact request_answered h rfl
  case leases =>
    have answered := request_answered (agent := .leases) (body := leasesRequest) h (a := okWith (s.leasesPayload r))
      (by simp only [leasesRequest, arg]; rfl)
    exact ⟨answered.1, answered.2, length_leasesPayload s r⟩
  case badArg => exact request_refused h (by simp [leasesRequest, arg])

/-- Settles O9: a snapshot is answered without a change, and every field of it reads back from its place. -/
theorem snapshotsChangeNothing : Obligations.SnapshotsChangeNothing :=
  ⟨snapshots_answered, fun _ => timePayload_fields, fun _ p ok => schedulePayload_fields ok p, channelsPayload_fields,
    fun _ _ => linesPayload_fields, fun _ _ => tripsPayload_fields, fun _ r ok => leasesPayload_fields ok r⟩

/-! ### NOTICES (R178) -/

theorem notice_fields (m : Notice) : fieldOf m.bytes 1 2 = m.subject % 2 ^ 16 ∧ fieldOf m.bytes 3 3 = m.detail % 2 ^ 24 ∧
    fieldOf m.bytes 6 6 = m.stamp % 2 ^ 48 ∧ fieldOf m.bytes 0 1 = m.kind.code := by
  have code : m.kind.code % 256 = m.kind.code := by cases m.kind <;> rfl
  simp [Notice.bytes, code]

/-- Settles O49: the front of the queue leaves and is returned, each notice 12 bytes. -/
theorem noticesLeaveFromTheFront : Obligations.NoticesLeaveFromTheFront := by
  refine fun p s payload clk h => ⟨fun range => ⟨_, rfl, ?_⟩, fun least most => ⟨_, rfl, ?_⟩⟩
  · have arg : noticesArg payload = none := if_neg (by omega)
    exact request_refused h (by simp [noticesRequest, arg])
  · have arg : noticesArg payload = some (fieldOf payload 0 1) := if_pos ⟨least, most⟩
    have does : noticesRequest p payload (s.hear (.queue p) clk) =
        ((s.hear (.queue p) clk).setQueue p { s.queue p with notices := (s.queue p).notices.drop (fieldOf payload 0 1) },
          okWith (noticesPayload ((s.queue p).notices.take (fieldOf payload 0 1)))) := by
      simp only [noticesRequest, arg]
      rfl
    obtain ⟨answered, left⟩ := request_taken h does rfl
    refine ⟨by rw [left]; rfl, fun q hq => ?_, ?_, ?_, fun m => ?_⟩
    · rw [left]
      exact State.queue_setQueue_ne _ _ _ _ (Ne.symm hq)
    · rw [left]
      exact State.queue_setQueue_self ..
    · simpa only [noticesPayload, List.length_take] using answered
    · obtain ⟨subject, detail, stamp, kind⟩ := notice_fields m
      exact ⟨length_noticeBytes m, subject, detail, stamp, kind⟩

end Sys2Proof.Machine
end

section
/-! PROOFS. The action schedule: its requests, what a repeat leaves in the list, and what a SCHEDULE_TICK takes. -/

namespace Sys2Proof.Machine

/-! ### The channels an action names (R20) -/

theorem getLsbD_one (d c : Chan) : (BitVec.ofNat 16 (2 ^ d.val)).getLsbD c.val = true ↔ d = c := by
  rw [← mem_chansOf, chansOf_one, List.mem_singleton, eq_comm]

theorem namesChan_iff (e : Entry) (c : Chan) : e.namesChan c = true ↔ (match e.action with
    | .set d _ => d = c
    | .pulse d _ => d = c
    | .train d _ _ _ => d = c
    | .groupSet mask _ => mask.getLsbD c.val = true
    | .mark => False) := by
  cases h : e.action with
  | set d level => simp only [Entry.namesChan, h, Action.names, getLsbD_one]
  | pulse d width => simp only [Entry.namesChan, h, Action.names, getLsbD_one]
  | train d period onTime pulses => simp only [Entry.namesChan, h, Action.names, getLsbD_one]
  | groupSet mask values => simp only [Entry.namesChan, h, Action.names]
  | mark => simp [Entry.namesChan, h, Action.names]

theorem namesAny_iff (e : Entry) (channels : ChanSet) :
    e.namesAny channels = true ↔ ∃ c : Chan, e.namesChan c = true ∧ channels.getLsbD c.val = true := by
  rw [Entry.namesAny, bne_iff_ne, and_ne_zero_iff]
  exact ⟨fun ⟨k, hk, hc⟩ => ⟨⟨k, BitVec.lt_of_getLsbD hk⟩, hk, hc⟩, fun ⟨c, hk, hc⟩ => ⟨c.val, hk, hc⟩⟩

/-! ### SUBMIT (R24 to R28) -/

section
variable {s : State} {p : Port} {e : Entry}

theorem submitRefusal_of_other (h : ∃ c, e.namesChan c = true ∧ s.chanHolder c ≠ some p) :
    s.submitRefusal p e = some .notHolder := by
  refine if_pos ?_
  simpa only [List.any_eq_true, mem_chansOf, bne_iff_ne, Entry.namesChan] using h

/-- With every channel held by the sender, the third check decides first. -/
theorem submitRefusal_of_held (held : ∀ c, e.namesChan c = true → s.chanHolder c = some p) :
    s.submitRefusal p e = if (chansOf e.action.names).any s.chanLocked then some .locked
      else if e.due ≤ s.tb.machTime ∧ e.late = .reject then some .late
      else if Config.portQuota ≤ s.sched.counts[p] then some .quota
      else if Config.scheduleCapacity ≤ s.sched.entries.length then some .schedFull
      else none := by
  refine if_neg ?_
  simp only [List.any_eq_true, mem_chansOf, bne_iff_ne, not_exists, not_and, not_not]
  exact held

theorem submitRefusal_of_locked (held : ∀ c, e.namesChan c = true → s.chanHolder c = some p)
    (locked : ∃ c, e.namesChan c = true ∧ (s.chan c).lockSet ≠ 0) : s.submitRefusal p e = some .locked := by
  rw [submitRefusal_of_held held, if_pos (any_chanLocked_iff.2 locked)]

/-- With every channel held by the sender and unlocked, the fourth check decides first. -/
theorem submitRefusal_of_free (held : ∀ c, e.namesChan c = true → s.chanHolder c = some p)
    (unlocked : ∀ c, e.namesChan c = true → (s.chan c).lockSet = 0) :
    s.submitRefusal p e = if e.due ≤ s.tb.machTime ∧ e.late = .reject then some .late
      else if Config.portQuota ≤ s.sched.counts[p] then some .quota
      else if Config.scheduleCapacity ≤ s.sched.entries.length then some .schedFull
      else none := by
  rw [submitRefusal_of_held held, if_neg]
  exact mt any_chanLocked_iff.1 fun ⟨c, hc, locked⟩ => locked (unlocked c hc)

theorem not_late (h : s.tb.machTime < e.due ∨ e.late = .fire) : ¬ (e.due ≤ s.tb.machTime ∧ e.late = .reject) := by
  rintro ⟨due, reject⟩
  rcases h with h | h
  · omega
  · cases h.symm.trans reject

end

theorem submitRequest_none {p : Port} {payload : List Byte} (h : submitEntry p payload = none) (s : State) :
    submitRequest p payload s = (s, refuse .badArg) := by simp [submitRequest, h]

theorem submitRequest_refused {p : Port} {payload : List Byte} {e : Entry} {s : State} {code : ReplyCode}
    (h : submitEntry p payload = some e) (hr : s.submitRefusal p e = some code) :
    submitRequest p payload s = (s, refuse code) := by simp [submitRequest, h, hr]

theorem submitRequest_accepted {p : Port} {payload : List Byte} {e : Entry} {s : State}
    (h : submitEntry p payload = some e) (hr : s.submitRefusal p e = none) :
    submitRequest p payload s = ({ s with sched := s.sched.accept e }, okWith (bytesOf 2 s.sched.chooseTag)) := by
  simp [submitRequest, h, hr]

/-- A refusal by a check of SUBMIT, the schedule not being in the middle of a tick. -/
theorem submit_refused {p : Port} {s : State} {payload : List Byte} {clk : Clock} {e : Entry} {code : ReplyCode}
    (h : s.handedRequest p .submit = some (payload, clk)) (idle : s.scheduleBusy = false)
    (he : submitEntry p payload = some e) (hr : s.submitRefusal p e = some code) :
    ∃ t, exec (.submit p) s = .next t ∧ s.Refused t p code := by
  refine ⟨_, rfl, ?_⟩
  rw [takeScheduleRequest_of_idle idle]
  exact request_refused h (submitRequest_refused he hr)

/-- Settles O12: the checks are an if-chain, so a refusal needs the earlier checks passed. -/
theorem submitRefusesInOrder : Obligations.SubmitRefusesInOrder := by
  refine ⟨fun p s payload clk h idle => ⟨fun none => ⟨_, rfl, ?badArg⟩, fun e he =>
    ⟨fun other => submit_refused h idle he (submitRefusal_of_other other), fun held =>
      ⟨fun locked => submit_refused h idle he (submitRefusal_of_locked held locked), fun unlocked =>
        ⟨fun late => submit_refused h idle he ?late, fun early =>
          ⟨fun quota => submit_refused h idle he ?quota, fun quota full => submit_refused h idle he ?full⟩⟩⟩⟩⟩,
    namesChan_iff, namesAny_iff⟩
  case badArg =>
    rw [takeScheduleRequest_of_idle idle]
    exact request_refused h (submitRequest_none none _)
  case late => rw [submitRefusal_of_free held unlocked, if_pos late]
  case quota => rw [submitRefusal_of_free held unlocked, if_neg (not_late early)]; exact if_pos quota
  case full =>
    rw [submitRefusal_of_free held unlocked, if_neg (not_late early)]
    exact (if_neg (Nat.not_le.2 quota)).trans (if_pos full)

/-- Settles O11: no check fails, and the entry joins the list. -/
theorem submitAccepts : Obligations.SubmitAccepts := by
  intro p s payload clk e h idle he free early quota room
  obtain ⟨rfl, -⟩ := submitEntry_some he
  have pass : s.submitRefusal e.owner e = none := by
    rw [submitRefusal_of_free (fun c hc => (free c hc).1) (fun c hc => (free c hc).2), if_neg (not_late early)]
    exact (if_neg (Nat.not_le.2 quota)).trans (if_neg (Nat.not_le.2 room))
  refine ⟨_, rfl, ?_⟩
  rw [takeScheduleRequest_of_idle idle]
  obtain ⟨answered, left⟩ := request_taken h (submitRequest_accepted (s := s.hear .schedule clk) he pass) rfl
  refine ⟨answered, by rw [left]; rfl, by rw [left]; rfl, by rw [left]; rfl, by rw [left]; rfl, fun q => ?_, by rw [left]; rfl,
    by rw [left]; rfl⟩
  rw [left]
  by_cases hq : q = e.owner
  · subst hq
    simp [Schedule.accept]
  · have hne : e.owner.val ≠ q.val := fun heq => hq (Fin.ext heq.symm)
    simp [Schedule.accept, hq, Vector.getElem_set_ne, hne]

/-! ### CANCEL, QUERY and CANCEL_CHANNEL (R41, R42, R47) -/

section
variable {s : State} {p : Port} {payload : List Byte}

theorem find_none {sc : Schedule} {tag : Nat} (h : ∀ e ∈ sc.entries, e.tag ≠ tag) : sc.find tag = none :=
  List.find?_eq_none.2 fun e he => by simpa using h e he

theorem cancelRequest_noTag (h : s.sched.find (tagArg payload) = none) : cancelRequest p payload s = (s, refuse .noTag) := by
  simp [cancelRequest, h]

theorem cancelRequest_notOwner {e : Entry} (h : s.sched.find (tagArg payload) = some e) (ho : e.owner ≠ p) :
    cancelRequest p payload s = (s, refuse .notOwner) := by
  simp [cancelRequest, h, ho]

theorem cancelRequest_owner {e : Entry} (h : s.sched.find (tagArg payload) = some e) (ho : e.owner = p) :
    cancelRequest p payload s = ({ s with sched := s.sched.remove fun x => x.tag == e.tag }, okEmpty) := by
  simp [cancelRequest, h, ho]

theorem queryRequest_noTag (h : s.sched.find (tagArg payload) = none) : queryRequest p payload s = (s, refuse .noTag) := by
  simp [queryRequest, h]

theorem queryRequest_notOwner {e : Entry} (h : s.sched.find (tagArg payload) = some e) (ho : e.owner ≠ p) :
    queryRequest p payload s = (s, refuse .notOwner) := by
  simp [queryRequest, h, ho]

theorem queryRequest_owner {e : Entry} (h : s.sched.find (tagArg payload) = some e) (ho : e.owner = p) :
    queryRequest p payload s = (s, okWith (s.queryPayload e)) := by
  simp [queryRequest, h, ho]

theorem cancelChannelRequest_some {which : Option Chan} (h : cancelChannelArg payload = some which) :
    cancelChannelRequest p payload s = ({ s with sched := s.sched.remove (cancelled p which) },
      okWith (bytesOf 1 (s.sched.entries.filter (cancelled p which)).length)) := by
  simp [cancelChannelRequest, h]

end

theorem Action.code_lt (a : Action) : a.code < 256 := by cases a <;> simp [Action.code]

/-- What QUERY's payload reads back (R188). -/
theorem queryPayload_fields (s : State) (e : Entry) :
    fieldOf (s.queryPayload e) 0 1 = (match e.action with
      | .set _ _ => 0
      | .pulse _ _ => 1
      | .train _ _ _ _ => 2
      | .groupSet _ _ => 3
      | .mark => 4) ∧
    (e.due < 2 ^ 48 → fieldOf (s.queryPayload e) 1 6 = e.due) ∧
    fieldOf (s.queryPayload e) 7 1 = (match e.rep.map Repetition.remaining with
      | none => 0
      | some (some _) => 1
      | some none => 2) ∧
    fieldOf (s.queryPayload e) 8 2 = (match e.rep.bind Repetition.remaining with
      | none => 0
      | some n => n % 2 ^ 16) ∧
    fieldOf (s.queryPayload e) 10 1 = (if e.due ≤ s.tb.machTime then 1 else 0) := by
  have kind : fieldOf (s.queryPayload e) 0 1 = e.action.code := by
    simpa [State.queryPayload] using e.action.code_lt
  refine ⟨kind.trans (by cases e.action <;> rfl), fun due => ?_, ?_⟩
  · simpa [State.queryPayload] using due
  · rcases h : e.rep with _ | ⟨interval, _ | n⟩ <;> by_cases past : e.due ≤ s.tb.machTime <;>
      simp [State.queryPayload, h, past]

/-- Settles O15: the tag, the owner and the channel named decide which entries leave or are reported. -/
theorem ownersCancelAndQueryTheirEntries : Obligations.OwnersCancelAndQueryTheirEntries := by
  refine ⟨fun p s payload clk idle => ⟨fun h => ⟨fun none => ⟨_, rfl, ?_⟩, fun e he => ⟨fun other => ⟨_, rfl, ?_⟩,
    fun own => ⟨_, rfl, ?_⟩⟩⟩, fun h => ⟨fun none => ⟨_, rfl, ?_⟩, fun e he => ⟨fun other => ⟨_, rfl, ?_⟩,
    fun own => ⟨_, rfl, ?_⟩⟩⟩⟩, fun p s payload clk h idle => ⟨fun big notAll => ⟨_, rfl, ?_⟩, fun c hc => ⟨_, rfl, ?_⟩,
    fun all => ⟨_, rfl, ?_⟩⟩⟩
  all_goals rw [takeScheduleRequest_of_idle idle]
  · exact request_refused h (cancelRequest_noTag (find_none none))
  · exact request_refused h (cancelRequest_notOwner he other)
  · obtain ⟨answered, left⟩ := request_taken h (cancelRequest_owner (s := s.hear .schedule clk) he own) rfl
    exact ⟨answered, by rw [left]; rfl, by rw [left]; rfl⟩
  · exact request_refused h (queryRequest_noTag (find_none none))
  · exact request_refused h (queryRequest_notOwner he other)
  · obtain ⟨answered, left⟩ := request_answered h (queryRequest_owner (s := s.hear .schedule clk) he own)
    exact ⟨answered, left, length_queryPayload s e, queryPayload_fields s e⟩
  · have arg : cancelChannelArg payload = none := by
      simp [cancelChannelArg, asFin, notAll, Nat.not_lt.2 big]
    exact request_refused h (by simp [cancelChannelRequest, arg])
  · have arg : cancelChannelArg payload = some (some c) := by
      have := c.isLt
      simp [cancelChannelArg, asFin, hc, show c.val ≠ 255 by omega]
    obtain ⟨answered, left⟩ := request_taken h (cancelChannelRequest_some (s := s.hear .schedule clk) arg) rfl
    exact ⟨answered, by rw [left]; rfl, by rw [left]; rfl⟩
  · have arg : cancelChannelArg payload = some none := if_pos all
    have mine : cancelled p none = fun e => e.owner == p := by funext e; simp [cancelled]
    obtain ⟨answered, left⟩ := request_taken h (cancelChannelRequest_some (s := s.hear .schedule clk) arg) rfl
    rw [mine] at answered left
    exact ⟨answered, by rw [left]; rfl, by rw [left]; rfl⟩

end Sys2Proof.Machine
end

section
/-! PROOFS. A tick at the schedule and the channels: repeats, what a SCHEDULE_TICK takes, and what an APPLICATION does. -/

namespace Sys2Proof.Machine

/-! ### Repeats (R37, R38) -/

theorem again_of_ended {e : Entry} (h : ∀ r, e.rep = some r → r.remaining = some 0 ∨ 2 ^ 48 - 1 < e.due + r.interval) :
    e.again = none := by
  unfold Entry.again
  split
  · rfl
  next r hr =>
  split
  · rfl
  next early =>
  split
  · rfl
  · next n left => exact absurd (h r hr) (by simp only [left]; exact fun x => x.elim nofun early)
  · next left => exact absurd (h r hr) (by simp only [left]; exact fun x => x.elim nofun early)

theorem again_of_left {e : Entry} {r : Repetition} (hr : e.rep = some r) (left : r.remaining ≠ some 0)
    (early : e.due + r.interval ≤ 2 ^ 48 - 1) :
    e.again = some { e with due := e.due + r.interval, rep := some { r with remaining := r.remaining.map (· - 1) } } := by
  have hd : ¬ Config.lastMachTime < e.due + r.interval := Nat.not_lt.2 early
  obtain ⟨interval, remaining⟩ := r
  rcases remaining with _ | _ | n
  · simp only [Entry.again, hr, if_neg hd, Option.map_none]
  · exact absurd rfl left
  · simp only [Entry.again, hr, if_neg hd, Option.map_some, Nat.add_sub_cancel]

theorem settleRepeat_of_none {e : Entry} (h : e.again = none) (sc : Schedule) :
    sc.settleRepeat e = sc.remove fun x => x.tag == e.tag := by simp [Schedule.settleRepeat, h]

theorem settleRepeat_of_some {e e' : Entry} (h : e.again = some e') (sc : Schedule) :
    sc.settleRepeat e = { sc with
      entries := insertEntry { e' with seq := sc.insertions } (sc.entries.filter fun x => !(x.tag == e.tag))
      insertions := sc.insertions + 1 } := by simp [Schedule.settleRepeat, h]

/-- An entry that leaves takes one off its owner's count. -/
theorem remove_tag_counts {sc : Schedule} (ok : sc.Ok) {e : Entry} (he : e ∈ sc.entries) :
    (sc.remove fun x => x.tag == e.tag).counts[e.owner] + 1 = sc.counts[e.owner] := by
  have one : sc.entries.filter (fun x => (x.tag == e.tag) && x.owner == e.owner) = [e] := by
    have split := List.filter_filter (p := fun x : Entry => x.owner == e.owner) (q := fun x => x.tag == e.tag) (l := sc.entries)
    rw [filter_tag_eq ok.tags he] at split
    simpa [Bool.and_comm] using split.symm
  have own : 0 < (sc.ownedBy e.owner).length := List.length_pos_of_mem (List.mem_filter.2 ⟨he, by simp⟩)
  rw [remove_counts, one, ok.counts]
  exact Nat.sub_add_cancel own

/-! ### The end of a tick (R30, R35) -/

theorem finishTick_sched (u : State) : (finishTick u).sched = { u.sched with work := (finishTick u).sched.work } := by
  unfold finishTick
  split
  · split
    · dsimp only
      split <;> rfl
    · rfl
  · rfl

theorem finishTick_posts (u : State) : (finishTick u).posts = u.posts := by simp

/-- With no action handed over, the tick goes on with what is left, or is done and offers its marks. -/
theorem finishTick_goesOn {s u : State} {w : Work} (hw : u.sched.work = some w) (hh : w.handed = none)
    (offers : u.offers = s.offers) : s.TickGoesOn (finishTick u) w.time w.ordinal w.marks w.rest := by
  by_cases hr : w.rest = []
  · obtain ⟨done, -⟩ := finishTick_of_done hw hr hh
    rw [State.TickGoesOn, if_pos hr, done]
    exact ⟨rfl, w.markOffers (u.clock .schedule), congrArg (· ++ _) offers, Work.markOffers_bodies ..⟩
  · have open_ : finishTick u = u := finishTick_of_open fun v hv => by
      cases hw.symm.trans hv
      exact fun h => hr h.1
    rw [State.TickGoesOn, if_neg hr, open_, hw]
    exact ⟨by simp [hh], offers⟩

theorem State.TickGoesOn.congr {s s' t t' : State} {time ordinal : Nat} {marks : List (Port × Nat)} {rest : List Entry}
    (h : s.TickGoesOn t time ordinal marks rest) (offers : s'.offers = s.offers) (work : t'.sched.work = t.sched.work)
    (offers' : t'.offers = t.offers) : s'.TickGoesOn t' time ordinal marks rest := by
  unfold State.TickGoesOn at h ⊢
  rw [offers, work, offers']
  exact h

/-! ### APPLICATION and the tick (R36, R37) -/

/-- APPLICATION deals with the repeat of the entry and lets the tick go on. -/
theorem applicationEvent_goesOn {s : State} {w : Work} {e : Entry} (hw : s.sched.work = some w) (he : w.handed = some e) :
    (applicationEvent s).sched =
      { s.sched.settleRepeat e with tick := s.sched.tick, work := (applicationEvent s).sched.work } ∧
    s.TickGoesOn (applicationEvent s) w.time w.ordinal w.marks w.rest := by
  have answered : ∃ u clk, applicationEvent s = (finishTick u).hear .channels clk ∧ u.offers = s.offers ∧
      u.sched = { s.sched.settleRepeat e with work := some { w with handed := none } } := by
    simp only [applicationEvent, hw, he]
    exact ⟨_, _, rfl, by simp, by simp⟩
  obtain ⟨u, clk, event, offers, sched⟩ := answered
  have goes : s.TickGoesOn (finishTick u) w.time w.ordinal w.marks w.rest :=
    finishTick_goesOn (w := { w with handed := none }) (by rw [sched]) rfl offers
  rw [event]
  refine ⟨?_, goes.congr rfl rfl rfl⟩
  have kept : (finishTick u).sched = _ := finishTick_sched u
  rw [sched] at kept
  exact kept.trans (by rw [← settleRepeat_tick s.sched e]; rfl)

/-- Settles O17: an ended repeat removes the entry, any other inserts it anew; APPLICATION does so for every action. -/
theorem repeatIsReinserted : Obligations.RepeatIsReinserted := by
  refine ⟨fun sc e ok he => ⟨fun ended => ?_, fun r hr left early => ?_⟩, fun s w e hw he => ?_⟩
  · rw [settleRepeat_of_none (again_of_ended ended)]
    exact ⟨rfl, remove_tag_counts ok he⟩
  · rw [settleRepeat_of_some (again_of_left hr left early)]
    exact ⟨insertEntry_perm _ _, rfl, rfl⟩
  · obtain ⟨sched, goes⟩ := applicationEvent_goesOn hw he
    exact ⟨_, rfl, applicationEvent_eq s, sched, goes⟩

/-! ### What the schedule makes of one entry (R33 to R36) -/

theorem guardFails_iff {s : State} {e : Entry} : s.guardFails e ↔ s.guardMet e = false := by
  cases h : e.guard <;> simp [State.guardFails, State.guardMet, h]

section
variable {w : Work} {e : Entry} {rest : List Entry} {s : State}

theorem takeEntry_of_skipped (h : s.guardMet e = false) : takeEntry w e rest s =
    { s.post .schedule e.owner ⟨.skipped, e.tag, lateness w.time e, w.time⟩ with
      sched := { s.sched.settleRepeat e with work := some { w with rest := rest } } } := by
  rw [takeEntry, if_neg (by simp [h])]
  rfl

theorem takeEntry_of_mark (h : s.guardMet e = true) (ha : e.action = .mark) : takeEntry w e rest s =
    { s.postOutcome e (firedNotice w.time e) with
      sched := { s.sched.settleRepeat e with work := some { w with rest := rest, marks := w.marks ++ [(e.owner, e.tag)] } } } := by
  rw [takeEntry, if_pos h]
  simp [ha]

theorem takeEntry_of_handed (h : s.guardMet e = true) (ha : e.action ≠ .mark) : takeEntry w e rest s =
    { s with sched := { s.sched with work := some { w with
        rest := rest, handed := some e, clk := s.clock .schedule, reached := true } } } := by
  rw [takeEntry, if_pos h]
  split
  · next heq => exact absurd heq ha
  · rfl

/-- The tick in hand stays in hand until it is finished, with the entries left. -/
theorem takeEntry_work : ∃ w', (takeEntry w e rest s).sched.work = some w' ∧ w'.rest = rest := by
  cases h : s.guardMet e with
  | false => exact ⟨_, by rw [takeEntry_of_skipped h], rfl⟩
  | true =>
    by_cases ha : e.action = .mark
    · exact ⟨_, by rw [takeEntry_of_mark h ha], rfl⟩
    · exact ⟨_, by rw [takeEntry_of_handed h ha], rfl⟩

end

theorem settleRepeat_setTick (sc : Schedule) (e : Entry) (k : Option Tick) (x : Option Work) :
    ({ sc with tick := k, work := x } : Schedule).settleRepeat e = { sc.settleRepeat e with tick := k, work := x } := by
  unfold Schedule.settleRepeat
  split <;> rfl

/-- The state with another tick at the schedule, and what else the schedule has heard of. -/
def State.withTick (s : State) (k : Option Tick) (x : Option Work) (clocks : Vector Clock 15) : State :=
  { s with sched := { s.sched with tick := k, work := x }, clocks := clocks }

section
variable {s : State} {w : Work} {e : Entry} {rest : List Entry} {k : Option Tick} {x : Option Work} {clocks : Vector Clock 15}

@[simp] theorem State.withTick_guardMet : (s.withTick k x clocks).guardMet e = s.guardMet e := rfl

/-- Taking the first entry of a tick that the schedule has in hand or has just opened. -/
theorem takesEntry_takeEntry (hh : w.handed = none) :
    s.TakesEntry (finishTick (takeEntry w e rest (s.withTick k x clocks))) w.time w.ordinal w.marks e rest ∧
      (finishTick (takeEntry w e rest (s.withTick k x clocks))).sched.tick = k := by
  have settled : (s.withTick k x clocks).sched.settleRepeat e = { s.sched.settleRepeat e with tick := k, work := x } :=
    settleRepeat_setTick ..
  have frame : finishTick (takeEntry w e rest (s.withTick k x clocks)) = { s with
      sched := (finishTick (takeEntry w e rest (s.withTick k x clocks))).sched,
      clocks := (finishTick (takeEntry w e rest (s.withTick k x clocks))).clocks,
      posts := (finishTick (takeEntry w e rest (s.withTick k x clocks))).posts,
      offers := (finishTick (takeEntry w e rest (s.withTick k x clocks))).offers } := by
    apply State.eq_of_fields <;> simp <;> rfl
  cases guard : s.guardMet e with
  | false =>
    have fails := guardFails_iff.2 guard
    have taken := takeEntry_of_skipped (w := w) (rest := rest) (s := s.withTick k x clocks) guard
    rw [settled] at taken
    have sched := finishTick_sched (takeEntry w e rest (s.withTick k x clocks))
    have goes := finishTick_goesOn (s := s) (u := takeEntry w e rest (s.withTick k x clocks)) (w := { w with rest := rest })
      (by rw [taken]) hh (by rw [taken]; rfl)
    refine ⟨⟨frame, fun _ => ?_, fun _ => ⟨?_, goes⟩, fun met => absurd fails met, fun met => absurd fails met⟩, ?_⟩
    · rw [sched, taken]
    · rw [taken]
      exact (posted_post (s.withTick k x clocks) .schedule e.owner _).congr rfl (fun _ => rfl) (finishTick_posts _)
    · rw [sched, taken]
  | true =>
    have met : ¬ s.guardFails e := fun fails => by cases (guardFails_iff.1 fails).symm.trans guard
    by_cases mark : e.action = .mark
    · have taken := takeEntry_of_mark (w := w) (rest := rest) (s := s.withTick k x clocks) guard mark
      rw [settled] at taken
      have sched := finishTick_sched (takeEntry w e rest (s.withTick k x clocks))
      have goes := finishTick_goesOn (s := s) (u := takeEntry w e rest (s.withTick k x clocks))
        (w := { w with rest := rest, marks := w.marks ++ [(e.owner, e.tag)] }) (by rw [taken]) hh (by rw [taken]; simp; rfl)
      refine ⟨⟨frame, fun _ => ?_, fun fails => absurd fails met, fun _ _ => ⟨?_, goes⟩, fun _ ne => absurd mark ne⟩, ?_⟩
      · rw [sched, taken]
      · rw [taken, ← firedNotice_posts]
        exact (posted_postOutcome (s.withTick k x clocks) e _).congr rfl (fun _ => rfl) (finishTick_posts _)
      · rw [sched, taken]
    · have taken := takeEntry_of_handed (w := w) (rest := rest) (s := s.withTick k x clocks) guard mark
      have waits : finishTick (takeEntry w e rest (s.withTick k x clocks)) = takeEntry w e rest (s.withTick k x clocks) := by
        rw [taken]
        exact finishTick_of_open fun v hv => by
          cases hv
          exact fun h => nomatch h.2
      refine ⟨⟨frame, fun either => absurd either (not_or.2 ⟨met, mark⟩), fun fails => absurd fails met,
        fun _ eq => absurd eq mark, fun _ _ => ?_⟩, ?_⟩
      all_goals rw [waits, taken]
      · exact ⟨.nil rfl, rfl, rfl, rfl⟩
      · rfl

end

/-! ### SCHEDULE_TICK (R30) -/

theorem openTick_of_work {s : State} {w : Work} (h : s.sched.work = some w) : openTick s = s := by
  simp [openTick, h]

/-- The tick offered is opened with the entries due by its own time. -/
theorem openTick_of_tick {s : State} {k : Tick} (h : s.sched.work = none) (hk : s.sched.tick = some k) :
    openTick s = s.withTick none (some { time := k.time, ordinal := k.ordinal, rest := s.sched.dueAt k.time })
      (s.hear .schedule k.clk).clocks := by
  simp only [openTick, h, hk]
  rfl

theorem takeEntries_of_none {s : State} (h : s.sched.work = none) (n : Nat) : takeEntries n s = s := by
  cases n <;> simp [takeEntries, h]

theorem takeEntries_of_handed {s : State} {w : Work} (h : s.sched.work = some w) (hh : w.handed.isSome) (n : Nat) :
    takeEntries n s = s := by
  obtain ⟨e, he⟩ := Option.isSome_iff_exists.1 hh
  cases n <;> simp [takeEntries, h, he]

theorem takeEntries_of_empty {s : State} {w : Work} (h : s.sched.work = some w) (hr : w.rest = []) (n : Nat) :
    takeEntries n s = s := by
  cases n <;> simp [takeEntries, h, hr]

theorem takeEntries_succ {s : State} {w : Work} {e : Entry} {rest : List Entry} (h : s.sched.work = some w) (hh : w.handed = none)
    (hr : w.rest = e :: rest) (n : Nat) : takeEntries (n + 1) s = takeEntries n (takeEntry w e rest s) := by
  simp [takeEntries, h, hh, hr]

/-- A SCHEDULE_TICK of one entry, on a tick in hand or just opened. -/
theorem takesEntry_one {s : State} {w : Work} {e : Entry} {rest : List Entry} {k : Option Tick} {clocks : Vector Clock 15}
    (hh : w.handed = none) (hr : w.rest = e :: rest) :
    s.TakesEntry (finishTick (takeEntries 1 (s.withTick k (some w) clocks))) w.time w.ordinal w.marks e rest ∧
      (finishTick (takeEntries 1 (s.withTick k (some w) clocks))).sched.tick = k := by
  rw [takeEntries_succ (w := w) rfl hh hr]
  exact takesEntry_takeEntry hh

/-- Taking n + 1 entries of an open tick is taking one and then, with the tick still in hand, n. -/
theorem finish_takeEntries_succ (s : State) (n : Nat) :
    finishTick (takeEntries (n + 1) s) = if (finishTick (takeEntries 1 s)).sched.work = none then finishTick (takeEntries 1 s)
      else scheduleTickEvent n (finishTick (takeEntries 1 s)) := by
  have same (still : ∀ n, takeEntries n s = s) (closed : (finishTick s).sched.work = none ∨ finishTick s = s) :
      finishTick (takeEntries (n + 1) s) = if (finishTick (takeEntries 1 s)).sched.work = none then
        finishTick (takeEntries 1 s) else scheduleTickEvent n (finishTick (takeEntries 1 s)) := by
    rw [still, still]
    split
    · rfl
    next open_ =>
    have stays := closed.resolve_left open_
    rw [stays] at open_ ⊢
    obtain ⟨w, hw⟩ := Option.ne_none_iff_exists'.1 open_
    rw [scheduleTickEvent, openTick_of_work hw, still, stays]
  cases hw : s.sched.work with
  | none => exact same (takeEntries_of_none hw) (.inl (by simp [finishTick, hw]))
  | some w =>
    cases hh : w.handed with
    | some e =>
      refine same (takeEntries_of_handed hw (by simp [hh])) (.inr (finishTick_of_open fun v hv => ?_))
      cases hw.symm.trans hv
      simp [hh]
    | none =>
      cases hr : w.rest with
      | nil =>
        refine same (takeEntries_of_empty hw hr) (.inl ?_)
        rw [(finishTick_of_done hw hr hh).1]
      | cons e rest =>
        rw [takeEntries_succ hw hh hr, takeEntries_succ hw hh hr]
        obtain ⟨w', hw', -⟩ := takeEntry_work (w := w) (e := e) (rest := rest) (s := s)
        change finishTick (takeEntries n _) = if (finishTick (takeEntry w e rest s)).sched.work = none then
          finishTick (takeEntry w e rest s) else scheduleTickEvent n (finishTick (takeEntry w e rest s))
        by_cases done : w'.rest = [] ∧ w'.handed = none
        · rw [if_pos (by rw [(finishTick_of_done hw' done.1 done.2).1]), takeEntries_of_empty hw' done.1]
        · have stays : finishTick (takeEntry w e rest s) = takeEntry w e rest s := finishTick_of_open fun v hv => by
            cases hw'.symm.trans hv
            exact done
          rw [stays, if_neg (by simp [hw']), scheduleTickEvent, openTick_of_work hw']

/-- Settles O16: the tick offered is opened once, and its entries are taken one by one from the first. -/
theorem scheduleTickTakesFirstDue : Obligations.ScheduleTickTakesFirstDue := by
  refine ⟨fun s k hw hk => ⟨fun nothing slice => ⟨_, rfl, ?_⟩, fun e rest due => ⟨_, rfl, ?_⟩⟩,
    fun s w e rest hw hh hr => ⟨_, rfl, ?_⟩, fun s w slice hw hh => ?_, fun s t n h => ?_⟩
  · rw [scheduleTickEvent, openTick_of_tick hw hk, nothing, takeEntries_of_empty rfl rfl]
    obtain ⟨done, -⟩ := finishTick_of_done
      (s := s.withTick none (some { time := k.time, ordinal := k.ordinal, rest := [] }) (s.hear .schedule k.clk).clocks) rfl rfl rfl
    rw [done]
    simp only [Work.markOffers, List.map_nil, List.append_nil]
    rw [← hw]
    rfl
  · rw [scheduleTickEvent, openTick_of_tick hw hk, due]
    exact takesEntry_one rfl rfl
  · rw [scheduleTickEvent, openTick_of_work hw]
    have self : s = s.withTick s.sched.tick (some w) s.clocks := by rw [← hw]; rfl
    have taken := takesEntry_one (s := s) (k := s.sched.tick) (clocks := s.clocks) hh hr
    rwa [← self] at taken
  · have open_ : finishTick s = s := finishTick_of_open fun v hv => by
      cases hw.symm.trans hv
      exact fun h => by simp [h.2] at hh
    change Host.Outcome.next (scheduleTickEvent slice s) = _
    rw [scheduleTickEvent, openTick_of_work hw, takeEntries_of_handed hw hh, open_]
  · obtain rfl := Host.Outcome.next.inj h
    refine (congrArg Host.Outcome.next (finish_takeEntries_succ (openTick s) n)).trans ?_
    exact apply_ite Host.Outcome.next _ _ _

/-! ### APPLICATION (R53 to R57) -/

/-- Settles O18: the channels look at the locks first and at the leases second, and only answer. -/
theorem applicationRefusedChangesNoChannel : Obligations.ApplicationRefusedChangesNoChannel := by
  rintro s w e hw he ⟨c, names, bad⟩
  obtain ⟨sched, goes⟩ := applicationEvent_goesOn hw he
  have refused : ∃ why, s.applicationRefusal e = some why := by
    by_cases locked : ∃ d, e.namesChan d = true ∧ (s.chan d).lockSet ≠ 0
    · exact ⟨_, applicationRefusal_of_locked locked⟩
    · have free : ∀ d, e.namesChan d = true → (s.chan d).lockSet = 0 := fun d hd => not_not.1 fun l => locked ⟨d, hd, l⟩
      exact ⟨_, applicationRefusal_of_notLeased free ⟨c, names, bad.resolve_left (not_not.2 (free c names))⟩⟩
  obtain ⟨why, hwhy⟩ := refused
  obtain ⟨chans, -⟩ := applicationEvent_of_refused hw he hwhy
  refine ⟨_, rfl, ?_, sched, goes, fun locked => ?_, fun free => ?_⟩
  · rw [← chans]
    exact applicationEvent_eq s
  · exact (applicationEvent_of_refused hw he (applicationRefusal_of_locked locked)).2
  · have other := bad.resolve_left (not_not.2 (free c names))
    exact (applicationEvent_of_refused hw he (applicationRefusal_of_notLeased free ⟨c, names, other⟩)).2

/-- A PULSE or TRAIN applied: the level found, after a waveform displaced, is the new rest level and is inverted (R54, R56, R57). -/
theorem chan_applyWave (s : State) (c : Chan) (e : Entry) (kind : WaveKind) (ticks ordinal : Nat) (d : Chan) :
    (applyWave c e kind ticks ordinal s).chan d =
      if c = d then { s.chan c with
        level := !(s.chan c).toRest.level
        wave := some (startWave e kind (s.chan c).toRest.level ticks ordinal) }
      else s.chan d := by
  simp only [applyWave, State.chan_setChan, State.postSuperseded_chan]
  split
  · cases h : (s.chan c).wave <;> simp [Channel.toRest, h]
  · rfl

theorem posted_applyWave (s : State) (c : Chan) (e : Entry) (kind : WaveKind) (ticks ordinal : Nat) :
    s.Posted (applyWave c e kind ticks ordinal s) (supersededPosts (s.chan c) e.tag s.tb.machTime) :=
  (posted_postSuperseded s c e.tag).congr rfl (fun _ => rfl) rfl

theorem Channel.toRest_level (x : Channel) : x.toRest.level = (match x.wave with
    | some v => v.rest
    | none => x.level) := by
  cases h : x.wave <;> simp [Channel.toRest, h]

/-- An application to one channel that the owner holds unlocked: the tick goes on, that channel alone changes, and SUPERSEDED comes
before the entry's outcome. -/
theorem applicationEvent_drives {s : State} {w : Work} {e : Entry} {c : Chan} {x : Channel} (hw : s.sched.work = some w)
    (he : w.handed = some e) (only : ∀ d, e.namesChan d = true → d = c) (free : (s.chan c).lockSet = 0)
    (held : s.chanHolder c = some e.owner)
    (chans : ∀ d, (applyAction e w.ordinal (s.hear .channels w.clk)).chan d = if c = d then x else s.chan d)
    (posts : (s.hear .channels w.clk).Posted (applyAction e w.ordinal (s.hear .channels w.clk))
      (supersededPosts (s.chan c) e.tag s.tb.machTime)) :
    let t := applicationEvent s
    t = { s with sched := t.sched, chans := t.chans, clocks := t.clocks, posts := t.posts, offers := t.offers } ∧
    t.sched = { s.sched.settleRepeat e with tick := s.sched.tick, work := t.sched.work } ∧
    s.TickGoesOn t w.time w.ordinal w.marks w.rest ∧ t.chan c = x ∧ (∀ d, d ≠ c → t.chan d = s.chan d) ∧
    s.Posted t (supersededPosts (s.chan c) e.tag s.tb.machTime ++ firedPosts w.time e) := by
  have pass : s.applicationRefusal e = none := applicationRefusal_of_leased fun d hd => by
    rw [only d hd]
    exact ⟨free, held⟩
  obtain ⟨sched, goes⟩ := applicationEvent_goesOn hw he
  obtain ⟨chan, posted⟩ := applicationEvent_of_passed hw he pass posts
  exact ⟨applicationEvent_eq s, sched, goes, (chan c).trans ((chans c).trans (if_pos rfl)),
    fun d hd => (chan d).trans ((chans d).trans (if_neg (Ne.symm hd))), posted⟩

/-- Settles O19: the action drives the one channel it names. -/
theorem applicationDrivesItsChannel : Obligations.ApplicationDrivesItsChannel := by
  intro s w e c hw he free held
  refine ⟨fun level ha => ⟨_, rfl, ?_⟩, fun width ha => ⟨_, rfl, ?_⟩, fun period onTime pulses ha => ⟨_, rfl, ?_⟩⟩
  · have applied (t : State) : applyAction e w.ordinal t = applySet c level e.tag t := by rw [applyAction, ha]
    refine applicationEvent_drives hw he (fun d hd => ?_) free held (fun d => ?_) ?_
    · exact (by simpa [ha] using (namesChan_iff e d).1 hd : c = d).symm
    · rw [applied]
      exact chan_applySet ..
    · rw [applied]
      exact posted_applySet ..
  · have applied (t : State) : applyAction e w.ordinal t = applyWave c e .pulse width w.ordinal t := by rw [applyAction, ha]
    refine applicationEvent_drives hw he (fun d hd => ?_) free held (fun d => ?_) ?_
    · exact (by simpa [ha] using (namesChan_iff e d).1 hd : c = d).symm
    · rw [applied, chan_applyWave, Channel.toRest_level]
      rfl
    · rw [applied]
      exact posted_applyWave ..
  · have applied (t : State) : applyAction e w.ordinal t = applyWave c e (.train onTime period pulses 0) onTime w.ordinal t := by
      rw [applyAction, ha]
    refine applicationEvent_drives hw he (fun d hd => ?_) free held (fun d => ?_) ?_
    · exact (by simpa [ha] using (namesChan_iff e d).1 hd : c = d).symm
    · rw [applied, chan_applyWave, Channel.toRest_level]
      rfl
    · rw [applied]
      exact posted_applyWave ..

end Sys2Proof.Machine
end

section
/-! PROOFS. The output channels: waveforms in machine time, the share of a lease end, locks and unlocks, and the two configuration requests. -/

namespace Sys2Proof.Machine

/-! ### Waveforms in machine time (R60 to R62) -/

/-- A count of a tick leaves the level and passes over the start tick. -/
theorem Channel.count_eq (x : Channel) (ordinal : Nat) : x.count ordinal = { x with
    wave := x.wave.map fun w => if w.start = ordinal then w else { w with ticksLeft := w.ticksLeft - 1 } } := by
  obtain ⟨level, wave, safe, policy, lockSet, tick⟩ := x
  cases wave with
  | none => rfl
  | some w => by_cases hs : w.start = ordinal <;> simp [Channel.count, hs]

theorem posted_postWaveDone (s : State) (w : Wave) (done : Nat) : s.Posted (s.postWaveDone w done)
    (if w.notify then [(.channels, w.owner, ⟨.waveDone, w.tag, done, s.tb.machTime⟩)] else []) := by
  unfold State.postWaveDone
  split
  · exact posted_post ..
  · exact .nil rfl

/-- A waveform's end: the channel is at rest with nothing in flight, and WAVE_DONE is posted when asked for (R61, R62). -/
theorem waveEnd_spec (s : State) (c : Chan) (w : Wave) (done : Nat) :
    let t := (s.setChan c { s.chan c with level := w.rest, wave := none }).postWaveDone w done
    t = { s with chans := t.chans, clocks := t.clocks, posts := t.posts } ∧
    t.chan c = { s.chan c with level := w.rest, wave := none } ∧ (∀ d, d ≠ c → t.chan d = s.chan d) ∧
    s.Posted t (if w.notify then [(.channels, w.owner, ⟨.waveDone, w.tag, done, s.tb.machTime⟩)] else []) := by
  refine ⟨by apply State.eq_of_fields <;> simp, by simp, fun d hd => ?_, ?_⟩
  · simp [State.chan_setChan_ne _ _ _ _ (Ne.symm hd)]
  · exact (posted_postWaveDone (s.setChan c { s.chan c with level := w.rest, wave := none }) w done).congr rfl (fun _ => rfl) rfl

section
variable {s : State} {c : Chan} {w : Wave} {onTime period ordered done : Nat}

theorem trainEdge_goesOn (hw : (s.chan c).wave = some w) (hk : w.kind = .train onTime period ordered done) (left : w.ticksLeft = 0)
    (active : w.active = true) (more : ordered = 0 ∨ done + 1 < ordered) : trainEdgeEvent c s = s.setChan c { s.chan c with
      level := w.rest, wave := some { w with
        active := false, ticksLeft := period - onTime, kind := .train onTime period ordered (min (done + 1) 65535) } } := by
  have goes : trainGoesOn ordered done = true := by simpa [trainGoesOn] using more
  simp [trainEdgeEvent, hw, hk, left, active, goes, Config.max16]

theorem trainEdge_ends (hw : (s.chan c).wave = some w) (hk : w.kind = .train onTime period ordered done) (left : w.ticksLeft = 0)
    (active : w.active = true) (range : ordered ≤ 65535) (last : done + 1 = ordered) :
    trainEdgeEvent c s = (s.setChan c { s.chan c with level := w.rest, wave := none }).postWaveDone w ordered := by
  have ends : trainGoesOn ordered done = false := by simp [trainGoesOn]; omega
  have count : min (done + 1) Config.max16 = ordered := by rw [last]; exact Nat.min_eq_left range
  simp only [trainEdgeEvent, hw, hk, left, active, ends, count]
  simp

theorem trainEdge_rests (hw : (s.chan c).wave = some w) (hk : w.kind = .train onTime period ordered done) (left : w.ticksLeft = 0)
    (rest : w.active = false) : trainEdgeEvent c s = s.setChan c { s.chan c with
      level := !w.rest, wave := some { w with active := true, ticksLeft := onTime } } := by
  simp [trainEdgeEvent, hw, hk, left, rest]

end

theorem trainEdgeEvent_chan_ne (s : State) {c d : Chan} (hd : d ≠ c) : (trainEdgeEvent c s).chan d = s.chan d := by
  have other : ∀ x, (s.setChan c x).chan d = s.chan d := fun x => State.chan_setChan_ne _ _ _ _ (Ne.symm hd)
  unfold trainEdgeEvent
  repeat' split
  all_goals simp [other]

/-- Settles O21: a tick is counted or passed over, and each edge has its own case. -/
theorem waveformsCountAndTakeEdges : Obligations.WaveformsCountAndTakeEdges := by
  refine ⟨fun s c k tick noEdge => ⟨_, rfl, ?_⟩, fun s c w hw pulse left => ⟨_, rfl, ?_⟩,
    fun s c w onTime period ordered done hw hk left => ⟨_, rfl, by apply State.eq_of_fields <;> simp, fun d hd => ?_,
      fun active more => ?_, fun active range last => ?_, fun rest => ?_⟩⟩
  · have event : channelTickEvent c s =
        (s.hear .channels k.clk).setChan c { (s.chan c).count k.ordinal with tick := none } := by
      simp [channelTickEvent, tick, noEdge]
    rw [event]
    refine ⟨rfl, fun d hd => State.chan_setChan_ne _ _ _ _ (Ne.symm hd), ?_⟩
    rw [State.chan_setChan_self, Channel.count_eq]
  · have event : pulseEndEvent c s = (s.setChan c { s.chan c with level := w.rest, wave := none }).postWaveDone w 0 := by
      simp [pulseEndEvent, hw, pulse, left]
    rw [event]
    exact waveEnd_spec s c w 0
  · exact trainEdgeEvent_chan_ne s hd
  · rw [trainEdge_goesOn hw hk left active more]
    exact ⟨State.chan_setChan_self .., .nil rfl⟩
  · rw [trainEdge_ends hw hk left active range last]
    exact ⟨(waveEnd_spec s c w ordered).2.1, (waveEnd_spec s c w ordered).2.2.2⟩
  · rw [trainEdge_rests hw hk left rest]
    exact ⟨State.chan_setChan_self .., .nil rfl⟩

/-! ### The share of a lease end (R64) -/

/-- What a lease end makes of a channel, field by field. -/
theorem Channel.endLease_eq (x : Channel) : x.endLease = if x.lockSet ≠ 0 then x else { x with
    wave := none
    level := match x.policy, x.wave with
      | .safe, _ => x.safe
      | .keep, some w => w.rest
      | .keep, none => x.level } := by
  unfold Channel.endLease
  split
  · rfl
  · obtain ⟨level, wave, safe, policy, lockSet, tick⟩ := x
    cases wave <;> cases policy <;> rfl

/-- Settles O22: the channel takes its share and the ending moves on, in the two records of that channel alone. -/
theorem leaseEndShareAppliesPolicy : Obligations.LeaseEndShareAppliesPolicy := by
  intro s c cause old clk ending
  have event : ∃ clk', leaseEndShareEvent c s = (((s.hear .channels clk).setChan c (s.chan c).endLease).setLease (resOf c)
      { s.lease (resOf c) with ending := some ⟨cause, old, .shareReported, clk'⟩ }) := by
    simp only [leaseEndShareEvent, ending]
    exact ⟨_, rfl⟩
  obtain ⟨clk', event⟩ := event
  refine ⟨_, rfl, ?_⟩
  rw [event]
  refine ⟨rfl, fun d hd => ?_, fun r hr => ?_, ⟨clk', State.lease_setLease_self ..⟩, ?_⟩
  · exact State.chan_setChan_ne _ _ _ _ (Ne.symm hd)
  · exact State.lease_setLease_ne _ _ _ _ (Ne.symm hr)
  · exact (State.chan_setChan_self (s.hear .channels clk) c _).trans (Channel.endLease_eq _)

/-! ### Locks and unlocks (R69, R70) -/

theorem lockEvent_of_lock {s : State} {c : Chan} {g : GroupId} {m : LockMsg} (hm : s.nextLockMsg c g = some m)
    (lock : m.lock = true) : ∃ k, lockEvent c g s = ((({ s with lockMsgs := s.lockMsgs.erase m } : State).hear .channels m.clk).setChan
      c ((s.chan c).locked g)).setGroup g { s.group g with reports := (s.group g).reports ++ [k] } := by
  simp only [lockEvent, hm, lock, if_true]
  exact ⟨_, rfl⟩

/-- The state in which a channel has taken an unlock and has posted nothing yet. -/
def State.unlock (s : State) (c : Chan) (g : GroupId) (m : LockMsg) : State :=
  (({ s with lockMsgs := s.lockMsgs.erase m } : State).hear .channels m.clk).setChan c ((s.chan c).unlocked g)

theorem unlockEvent_of_unlock {s : State} {c : Chan} {g : GroupId} {m : LockMsg} (hm : s.nextLockMsg c g = some m)
    (unlock : m.lock = false) : unlockEvent c g s =
      if (s.chan c).lockSet ≠ 0 ∧ ((s.chan c).unlocked g).lockSet = 0 then (s.unlock c g m).postUnlocked c else s.unlock c g m := by
  have chan : ((s.unlock c g m).chan c) = (s.chan c).unlocked g := State.chan_setChan_self ..
  rw [← chan]
  simp only [unlockEvent, hm, unlock]
  rfl

theorem posted_postUnlocked (s : State) (c : Chan) : s.Posted (s.postUnlocked c) (match s.chanHolder c with
    | some p => [(.channels, p, ⟨.unlocked, c.val, if (s.chan c).level then 1 else 0, s.tb.machTime⟩)]
    | none => []) := by
  unfold State.postUnlocked
  cases s.chanHolder c with
  | none => exact .nil rfl
  | some p => exact posted_post ..

/-- Settles O23: the oldest hand-over is taken, and the lock set gains or loses the group. -/
theorem lockAndUnlockChangeTheLockSet : Obligations.LockAndUnlockChangeTheLockSet := by
  refine fun s c g m hm => ⟨fun lock => ⟨_, rfl, ?_⟩, fun unlock => ⟨_, rfl, ?_⟩⟩
  · obtain ⟨k, event⟩ := lockEvent_of_lock hm lock
    rw [event]
    refine ⟨rfl, fun d hd => ?_, ?_, fun g' hg => ?_, k, ?_⟩
    · exact State.chan_setChan_ne _ _ _ _ (Ne.symm hd)
    · exact (State.chan_setChan_self ..).trans rfl
    · exact State.group_setGroup_ne _ _ _ _ (Ne.symm hg)
    · exact State.group_setGroup_self ..
  · have chan : (s.unlock c g m).chan c = (s.chan c).unlocked g := State.chan_setChan_self ..
    have others : ∀ d, d ≠ c → (s.unlock c g m).chan d = s.chan d := fun d hd => State.chan_setChan_ne _ _ _ _ (Ne.symm hd)
    rw [unlockEvent_of_unlock hm unlock]
    by_cases emptied : (s.chan c).lockSet ≠ 0 ∧ ((s.chan c).unlocked g).lockSet = 0
    · rw [if_pos emptied]
      have posted := posted_postUnlocked (s.unlock c g m) c
      rw [chan] at posted
      refine ⟨by apply State.eq_of_fields <;> simp <;> rfl, fun d hd => ?_, ?_, ?_⟩
      · rw [State.postUnlocked_chan, others d hd]
      · rw [State.postUnlocked_chan, chan]
        rfl
      · rw [State.postUnlocked_chan, chan]
        simp only [if_pos emptied]
        exact posted.congr rfl (fun _ => rfl) rfl
    · rw [if_neg emptied]
      refine ⟨rfl, others, chan.trans rfl, ?_⟩
      rw [chan]
      simp only [if_neg emptied]
      cases s.chanHolder c <;> exact .nil rfl

/-! ### Configuration (R67, R105) -/

section
variable {p : Port} {payload : List Byte} {s : State} {c : Chan} {safe : Level} {policy : ReleasePolicy}

theorem channelConfigRequest_locked (h : channelConfigArgs payload = some (c, safe, policy)) (held : s.chanHolder c = some p)
    (locked : (s.chan c).lockSet ≠ 0) : channelConfigRequest p payload s = (s, refuse .locked) := by
  simp only [channelConfigRequest, h, held, if_true]
  exact if_pos (chanLocked_iff.2 locked)

theorem channelConfigRequest_taken (h : channelConfigArgs payload = some (c, safe, policy)) (held : s.chanHolder c = some p)
    (free : (s.chan c).lockSet = 0) :
    channelConfigRequest p payload s = (s.setChan c { s.chan c with safe := safe, policy := policy }, okEmpty) := by
  simp only [channelConfigRequest, h, held, if_true]
  exact if_neg (mt chanLocked_iff.1 (not_not.2 free))

end

/-- Settles O24: the checks in their order, then the two fields, or the three fields and the counts. -/
theorem configurationRequestsSetTheirFields : Obligations.ConfigurationRequestsSetTheirFields := by
  refine ⟨fun p s payload clk h => ⟨fun none => ⟨_, rfl, request_refused h (by simp [channelConfigRequest, none])⟩,
    fun c safe policy args => ⟨_, rfl, ?_⟩⟩, fun p s payload clk i mode q d h args holder => ⟨_, rfl, ?_⟩⟩
  · by_cases held : s.chanHolder c = some p
    · rw [if_neg (not_not.2 held)]
      by_cases locked : (s.chan c).lockSet ≠ 0
      · rw [if_pos locked]
        exact request_refused h (channelConfigRequest_locked args held locked)
      · rw [if_neg locked]
        have does := channelConfigRequest_taken (s := s.hear .channels clk) args held (not_not.1 locked)
        obtain ⟨answered, left⟩ := request_taken h does rfl
        refine ⟨answered, by rw [left]; rfl, ?_, fun d hd => ?_⟩
        · rw [left]
          exact State.chan_setChan_self ..
        · rw [left]
          exact State.chan_setChan_ne _ _ _ _ (Ne.symm hd)
    · rw [if_pos held]
      exact request_refused h (by simp [channelConfigRequest, args, held])
  · have does : lineConfigRequest p payload (s.hear .lines clk) =
        ((s.hear .lines clk).setLine i { s.line i with mode := mode, q := q, d := d, decim := 0, stable := 0 }, okEmpty) := by
      simp only [lineConfigRequest, args]
      exact if_pos (by simpa using holder)
    obtain ⟨answered, left⟩ := request_taken h does rfl
    refine ⟨answered, by rw [left]; rfl, fun j hj => ?_, ?_⟩
    · rw [left]
      exact State.line_setLine_ne _ _ _ _ (Ne.symm hj)
    · rw [left]
      exact State.line_setLine_self ..

end Sys2Proof.Machine
end

section
/-! PROOFS. The Lease Table: claims and releases, the steps of a lease end, limits, and the part of a teardown. -/

namespace Sys2Proof.Machine

/-! ### The grant step (R82, R94) -/

@[simp] theorem grantLevel_timeline (s : State) : s.grantLevel timeline = 0 := by simp [State.grantLevel, timeline]

@[simp] theorem grantLevel_resOf (s : State) (c : Chan) : s.grantLevel (resOf c) = if (s.chan c).level then 1 else 0 := by
  simp [State.grantLevel, resOf]

theorem grantStep_grantsNext (s : State) (r : ResId) : s.GrantsNext (grantStep r s) r (s.grantLevel r) [] := by
  refine ⟨fun before claim after hq ahead hc => ?_, fun all => ?_⟩
  · rw [grantStep_of_claim hq ahead hc]
    exact ⟨State.lease_setLease_self .., (posted_post _ _ _ _).congr rfl (fun _ => rfl) rfl⟩
  · rw [grantStep_of_closing all]
    exact ⟨State.lease_setLease_self .., .nil rfl⟩

/-- The grant step touches the record of its resource alone, which then is not ending. -/
theorem grantStep_leases (s : State) (r : ResId) :
    (∀ r', r' ≠ r → (grantStep r s).lease r' = s.lease r') ∧ ((grantStep r s).lease r).ending = none := by
  rcases queue_split s (s.lease r).queue with all | ⟨before, c, later, hq, ahead, hc⟩
  · rw [grantStep_of_closing all]
    exact ⟨fun r' h => State.lease_setLease_ne _ _ _ _ (Ne.symm h), by rw [State.lease_setLease_self]⟩
  · rw [grantStep_of_claim hq ahead hc]
    exact ⟨fun r' h => State.lease_setLease_ne _ _ _ _ (Ne.symm h), congrArg Lease.ending (State.lease_setLease_self ..)⟩

/-- Posts made before the grant step in the same event come first. -/
theorem State.GrantsNext.after {s u t : State} {r : ResId} {level : Nat} {first : List (PostBlock × Port × Notice)}
    (h : u.GrantsNext t r level []) (lease : u.lease r = { s.lease r with revokeDue := (u.lease r).revokeDue })
    (ports : u.ports = s.ports) (tb : u.tb = s.tb) (posted : s.Posted u first) : s.GrantsNext t r level first := by
  have port : ∀ p, u.port p = s.port p := fun p => congrArg (·[p]) ports
  have closing : ∀ p, u.isClosing p = s.isClosing p := fun p => by rw [State.isClosing, State.session, port]; rfl
  have queue : (u.lease r).queue = (s.lease r).queue := by rw [lease]
  have sessions : ∀ p, (u.port p).sessions = (s.port p).sessions := fun p => by rw [port]
  obtain ⟨granted, vacant⟩ := h
  refine ⟨fun before claim after hq ahead hc => ?_, fun all => ?_⟩
  · obtain ⟨record, posts⟩ := granted before claim after (queue.trans hq) (fun x hx => (closing _).trans (ahead x hx))
      ((closing _).trans hc)
    refine ⟨by rw [record, lease, tb], ?_⟩
    rw [tb] at posts
    exact posted.trans sessions posts
  · obtain ⟨record, posts⟩ := vacant fun x hx => (closing _).trans (all x (queue ▸ hx))
    refine ⟨by rw [record, lease], ?_⟩
    simpa using posted.trans sessions posts

theorem State.GrantsNext.congr_right {s t t' : State} {r : ResId} {level : Nat} {first : List (PostBlock × Port × Notice)}
    (h : s.GrantsNext t r level first) (lease : t'.lease r = t.lease r) (posts : t'.posts = t.posts) :
    s.GrantsNext t' r level first := by
  obtain ⟨granted, vacant⟩ := h
  refine ⟨fun before claim after hq ahead hc => ?_, fun all => ?_⟩
  · obtain ⟨record, posted⟩ := granted before claim after hq ahead hc
    exact ⟨lease.trans record, posted.congr rfl (fun _ => rfl) posts⟩
  · obtain ⟨record, posted⟩ := vacant all
    exact ⟨lease.trans record, posted.congr rfl (fun _ => rfl) posts⟩

/-! ### CLAIM (R76 to R78) -/

theorem claims_iff {s : State} {r : ResId} {p : Port} :
    (s.lease r).queue.any (fun c => c.port == p) = true ↔ ∃ c ∈ (s.lease r).queue, c.port = p := by simp

theorem Lease.free_iff {x : Lease} : x.free = true ↔ x.holder = none ∧ x.ending = none ∧ x.queue = [] := by
  simp [Lease.free, and_assoc]

section
variable {s : State} {p : Port} {payload : List Byte} {r : ResId} {hold wait : Nat}

theorem claimRequest_already (h : claimArgs payload = some (r, hold, wait))
    (known : s.holder r = some p ∨ ∃ c ∈ (s.lease r).queue, c.port = p) :
    claimRequest p payload s = (s, refuse .already) := by
  simp only [claimRequest, h]
  exact if_pos (known.imp_right claims_iff.2)

theorem claimRequest_stranger (h : claimArgs payload = some (r, hold, wait))
    (stranger : ¬ (s.holder r = some p ∨ ∃ c ∈ (s.lease r).queue, c.port = p)) :
    claimRequest p payload s = if (s.lease r).free then (grantAtClaim r p hold s, okWith (bytesOf 1 (s.grantLevel r)))
      else (queueClaim r p hold wait s, { code := .queued, payload := bytesOf 1 ((s.lease r).queue.length + 1) }) := by
  simp only [claimRequest, h]
  exact if_neg (mt (Or.imp_right claims_iff.1) stranger)

/-- A claim joins the tail, and the lease is to be revoked when its hold limit has passed. -/
theorem queueClaim_eq (r : ResId) (p : Port) (hold wait : Nat) (s : State) : queueClaim r p hold wait s = s.setLease r { s.lease r with
    queue := (s.lease r).queue ++ [⟨p, hold, wait, s.tb.wallTime⟩]
    revokeDue := (s.lease r).revokeDue || ((s.lease r).holder.isSome && (s.lease r).holdLimit != 0 &&
      decide ((s.lease r).holdLimit ≤ s.wallSince (s.lease r).grantWall)) } := by
  unfold queueClaim
  dsimp only
  have contested : (s.setLease r { s.lease r with
      queue := (s.lease r).queue ++ [⟨p, hold, wait, s.tb.wallTime⟩] }).contested r =
      ((s.lease r).holder.isSome && (s.lease r).holdLimit != 0 &&
        decide ((s.lease r).holdLimit ≤ s.wallSince (s.lease r).grantWall)) := by
    simp [State.contested]
  rw [contested]
  split
  · next due => rw [State.lease_setLease_self, State.setLease_setLease, due, Bool.or_true]
  · next early => rw [eq_false_of_ne_true early, Bool.or_false]

end

theorem grantLevel_bytes (s : State) (r : ResId) :
    bytesOf 1 (s.grantLevel r) = [if h : r.val < 16 then (if (s.chan ⟨r.val, h⟩).level then 1 else 0) else 0] := by
  unfold State.grantLevel
  split
  · next h => cases (s.chan ⟨r.val, h⟩).level <;> rfl
  · rfl

/-- Settles O25: a port that holds or waits is ALREADY there; any other is granted a free resource or joins the queue. -/
theorem claimGrantsOrQueues : Obligations.ClaimGrantsOrQueues := by
  refine fun p s payload clk h => ⟨fun none => ⟨_, rfl, request_refused h (by simp [claimRequest, none])⟩,
    fun r hold wait args => ⟨_, rfl, ?_⟩⟩
  by_cases known : s.holder r = some p ∨ ∃ c ∈ (s.lease r).queue, c.port = p
  · rw [if_pos known]
    exact request_refused h (claimRequest_already args known)
  rw [if_neg known]
  have does := claimRequest_stranger (s := s.hear .leases clk) args known
  by_cases free : s.holder r = none ∧ (s.lease r).ending = none ∧ (s.lease r).queue = []
  · obtain ⟨answered, left⟩ := request_taken h (does.trans (if_pos (Lease.free_iff.2 free))) rfl
    rw [if_pos free, ← grantLevel_bytes]
    refine ⟨by rw [left]; rfl, fun r' hr => ?_, answered, ?_⟩
    · rw [left]
      exact State.lease_setLease_ne _ _ _ _ (Ne.symm hr)
    · rw [left]
      exact State.lease_setLease_self ..
  · have queued := (does.trans (if_neg (mt Lease.free_iff.1 free))).trans (congrArg (·, _) (queueClaim_eq ..))
    obtain ⟨answered, left⟩ := request_taken h queued rfl
    rw [if_neg free]
    refine ⟨by rw [left]; rfl, fun r' hr => ?_, answered, ?_⟩
    · rw [left]
      exact State.lease_setLease_ne _ _ _ _ (Ne.symm hr)
    · rw [left]
      exact State.lease_setLease_self ..

/-! ### RELEASE (R80) -/

section
variable {s : State} {p : Port} {payload : List Byte} {r : ResId}

theorem releaseRequest_holder (h : resourceArg payload = some r) (holds : s.holder r = some p) :
    releaseRequest p payload s = (endLease r .release p s, okWith [0]) := by
  simp only [releaseRequest, h]
  exact if_pos holds

theorem releaseRequest_claimant (h : resourceArg payload = some r) (holds : s.holder r ≠ some p)
    (claims : ∃ c ∈ (s.lease r).queue, c.port = p) : releaseRequest p payload s =
      (s.setLease r { s.lease r with queue := withoutPort p (s.lease r).queue }, okWith [1]) := by
  simp only [releaseRequest, h]
  exact (if_neg holds).trans (if_pos (claims_iff.2 claims))

theorem releaseRequest_other (h : resourceArg payload = some r) (holds : s.holder r ≠ some p)
    (claims : ∀ c ∈ (s.lease r).queue, c.port ≠ p) : releaseRequest p payload s = (s, refuse .notHolder) := by
  simp only [releaseRequest, h]
  exact (if_neg holds).trans (if_neg (mt claims_iff.1 fun ⟨c, hc, e⟩ => claims c hc e))

end

/-- Settles O26: the holder's lease ends, on T with the grant step; a claim is withdrawn. -/
theorem releaseEndsOrWithdraws : Obligations.ReleaseEndsOrWithdraws := by
  refine fun p s payload clk h => ⟨fun none => ⟨_, rfl, request_refused h (by simp [releaseRequest, none])⟩,
    fun r arg => ⟨_, rfl, fun holds => ?_, fun holds claims => ?_, fun holds claims => ?_⟩⟩
  · have does := releaseRequest_holder (s := s.hear .leases clk) arg holds
    by_cases hr : r = timeline
    · subst hr
      rw [endLease_timeline] at does
      obtain ⟨answered, left⟩ := request_taken h does (by simp)
      refine ⟨answered, by rw [left]; apply State.eq_of_fields <;> simp, fun r' hr => ?_, fun ne => absurd rfl ne, fun _ => ?_⟩
      · rw [left]
        exact (grantStep_leases (s.hear .leases clk) timeline).1 r' hr
      · rw [left, ← grantLevel_timeline s]
        exact grantStep_grantsNext (s.hear .leases clk) timeline
    · rw [endLease_of_ne hr] at does
      obtain ⟨answered, left⟩ := request_taken h does rfl
      refine ⟨answered, by rw [left]; rfl, fun r' hr => ?_, fun _ => ⟨.nil (by rw [left]; rfl), (s.hear .leases clk).clock .leases, ?_⟩, fun e => absurd e hr⟩
      · rw [left]
        exact State.lease_setLease_ne _ _ _ _ (Ne.symm hr)
      · rw [left]
        exact State.lease_setLease_self ..
  · obtain ⟨answered, left⟩ := request_taken h (releaseRequest_claimant (s := s.hear .leases clk) arg holds claims) rfl
    refine ⟨answered, by rw [left]; rfl, fun r' hr => ?_, ?_⟩
    · rw [left]
      exact State.lease_setLease_ne _ _ _ _ (Ne.symm hr)
    · rw [left]
      exact State.lease_setLease_self ..
  · exact request_refused h (releaseRequest_other (s := s.hear .leases clk) arg holds claims)

/-! ### The steps of a lease end (R43, R81, R82) -/

theorem posted_postDropped (s : State) (why : DropReason) (removed : List Entry) : s.Posted (s.postDropped why removed)
    (removed.map fun e => (.schedule, e.owner, ⟨.dropped, e.tag, why.code, s.tb.machTime⟩)) := by
  unfold State.postDropped
  generalize s.tb.machTime = now
  induction removed generalizing s with
  | nil => exact .nil rfl
  | cons e removed ih => exact (posted_post s .schedule e.owner _).trans (fun _ => rfl) (ih _)

/-- The schedule has heard of a purge and has posted what a revocation drops (R43). -/
def State.purging (s : State) (c : Chan) (cause : EndCause) (old : Port) (clk : Clock) : State :=
  if cause = .revoke then
    (s.hear .schedule clk).postDropped .lease (s.sched.entries.filter fun e => e.owner == old && e.namesChan c)
  else s.hear .schedule clk

theorem purging_frame (s : State) (c : Chan) (cause : EndCause) (old : Port) (clk : Clock) :
    s.purging c cause old clk =
      { s with clocks := (s.purging c cause old clk).clocks, posts := (s.purging c cause old clk).posts } := by
  unfold State.purging
  split
  · apply State.eq_of_fields <;> simp
  · rfl

theorem posted_purging (s : State) (c : Chan) (cause : EndCause) (old : Port) (clk : Clock) :
    s.Posted (s.purging c cause old clk) (if cause = .revoke then
      (s.sched.entries.filter fun e => e.owner == old && e.namesChan c).map
        fun e => (.schedule, e.owner, ⟨.dropped, e.tag, 1, s.tb.machTime⟩) else []) := by
  unfold State.purging
  split
  · exact (posted_postDropped (s.hear .schedule clk) .lease _).congr rfl (fun _ => rfl) rfl
  · exact .nil rfl

theorem leaseEndPurgeEvent_of_handed {s : State} {c : Chan} {cause : EndCause} {old : Port} {clk : Clock}
    (ending : (s.lease (resOf c)).ending = some ⟨cause, old, .purgeHanded, clk⟩) (idle : s.scheduleBusy = false) :
    ∃ k, leaseEndPurgeEvent c s = ({ s.purging c cause old clk with
        sched := s.sched.remove fun e => e.owner == old && e.namesChan c } : State).setLease (resOf c)
      { s.lease (resOf c) with ending := some ⟨cause, old, .purgeReported, k⟩ } := by
  have busy : ¬ s.scheduleBusy = true := by simp [idle]
  have sched : (s.purging c cause old clk).sched = s.sched := by rw [purging_frame]
  have lease : (s.purging c cause old clk).lease (resOf c) = s.lease (resOf c) := by rw [purging_frame]; rfl
  rw [← sched, ← lease]
  simp only [leaseEndPurgeEvent, ending, if_neg busy]
  exact ⟨_, rfl⟩

theorem teardownEnding_iff {s : State} {p : Port} : s.teardownEnding p = false ↔
    ∀ r e, (s.lease r).ending = some e → ¬ (e.cause = .teardown ∧ e.old = p) := by
  simp only [State.teardownEnding, List.any_eq_false, List.mem_finRange, true_imp_iff]
  refine forall_congr' fun r => ?_
  cases (s.lease r).ending <;> simp

/-- The report of a port's part, made when no lease end of its teardown is left (R90). -/
theorem leasePartCheck_spec (p : Port) (s : State) :
    (∀ q, q ≠ p → (leasePartCheck p s).port q = s.port q) ∧
    ((s.port p).parts.leases = .working ∧ s.teardownEnding p = false →
      (leasePartCheck p s).port p = { s.port p with parts := { (s.port p).parts with leases := .reported (s.clock .leases) } }) ∧
    (¬ ((s.port p).parts.leases = .working ∧ s.teardownEnding p = false) → (leasePartCheck p s).port p = s.port p) := by
  unfold leasePartCheck
  split
  · next done =>
    exact ⟨fun q hq => State.port_setPort_ne _ _ _ _ (Ne.symm hq), fun _ => State.port_setPort_self .., fun h => absurd done h⟩
  · next open_ => exact ⟨fun _ _ => rfl, fun h => absurd h open_, fun _ => rfl⟩

/-- Settles O27: each step takes the one before it, and the grant step ends the lease end and perhaps a teardown part. -/
theorem leaseEndRunsItsSteps : Obligations.LeaseEndRunsItsSteps := by
  refine ⟨fun s c cause old clk => ⟨fun ending idle => ⟨_, rfl, ?_⟩, fun ending => ⟨_, rfl, ?_⟩⟩,
    fun s c cause old clk ending => ⟨_, rfl, ?_⟩⟩
  · obtain ⟨k, event⟩ := leaseEndPurgeEvent_of_handed ending idle
    have frame := purging_frame s c cause old clk
    have posted := posted_purging s c cause old clk
    rw [event]
    generalize s.purging c cause old clk = u at frame posted
    have leases : u.leases = s.leases := by rw [frame]
    refine ⟨by rw [frame]; rfl, rfl, ⟨k, State.lease_setLease_self ..⟩, fun r hr => ?_, posted.congr rfl (fun _ => rfl) rfl⟩
    exact (State.lease_setLease_ne _ _ _ _ (Ne.symm hr)).trans (congrArg (·[r]) leases)
  · have event : purgeReportEvent c s = (s.hear .leases clk).setLease (resOf c)
        { s.lease (resOf c) with ending := some ⟨cause, old, .shareHanded, (s.hear .leases clk).clock .leases⟩ } := by
      simp only [purgeReportEvent, ending]
      rfl
    rw [event]
    exact ⟨rfl, ⟨_, State.lease_setLease_self ..⟩, fun r hr => State.lease_setLease_ne _ _ _ _ (Ne.symm hr)⟩
  · have event : grantStepEvent c s = leasePartCheck old (grantStep (resOf c) (s.hear .leases clk)) := by
      simp only [grantStepEvent, ending]
    obtain ⟨others, ended⟩ := grantStep_leases (s.hear .leases clk) (resOf c)
    have grants := grantStep_grantsNext (s.hear .leases clk) (resOf c)
    have ports : ∀ q, (grantStep (resOf c) (s.hear .leases clk)).port q = s.port q := fun q => by simp [State.port]
    rw [event]
    generalize hu : grantStep (resOf c) (s.hear .leases clk) = u at others ended grants ports ⊢
    obtain ⟨portsNe, last, notLast⟩ := leasePartCheck_spec old u
    have isLast : ((u.port old).parts.leases = .working ∧ u.teardownEnding old = false) ↔
        ((s.port old).parts.leases = .working ∧
          ∀ r e, r ≠ resOf c → (s.lease r).ending = some e → ¬ (e.cause = .teardown ∧ e.old = old)) := by
      rw [teardownEnding_iff, ports]
      refine and_congr_right fun _ => forall_congr' fun r => forall_congr' fun e => ?_
      by_cases hr : r = resOf c
      · subst hr
        simp [ended]
      · rw [others r hr]
        simp [hr]
    refine ⟨?_, fun r hr => ?_, ?_, fun q hq => (portsNe q hq).trans (ports q), ⟨fun h => ⟨u.clock .leases, ?_⟩, fun h => ?_⟩, ?_⟩
    · rw [← hu]
      apply State.eq_of_fields <;> simp
    · exact (congrArg (·[r]) (by simp : (leasePartCheck old u).leases = u.leases)).trans (others r hr)
    · exact (congrArg (fun l => (l[resOf c] : Lease).ending) (by simp : (leasePartCheck old u).leases = u.leases)).trans ended
    · rw [← ports]
      exact last (isLast.2 h)
    · rw [← ports]
      exact notLast (mt isLast.1 h)
    · rw [← grantLevel_resOf s c]
      exact grants.congr_right (s := s) (by simp [State.lease]) (by simp)

/-! ### Limits (R84 to R88) -/

theorem contested_iff {s : State} {r : ResId} : s.contested r = true ↔ (∃ old, s.holder r = some old) ∧ (s.lease r).holdLimit ≠ 0 ∧
    (s.lease r).holdLimit ≤ s.wallSince (s.lease r).grantWall ∧ (s.lease r).queue ≠ [] := by
  simp [State.contested, State.holder, Option.isSome_iff_exists, and_assoc]

theorem wallSince_eq {s : State} {w : Nat} (now : s.tb.wallTime < 2 ^ 48) (then_ : w < 2 ^ 48) :
    s.wallSince w = if w ≤ s.tb.wallTime then s.tb.wallTime - w else s.tb.wallTime + 2 ^ 48 - w := by
  simp only [State.wallSince, Config.wallModulus]
  split <;> omega

/-- The state in which a revocation has posted REVOKED and the lease end has still to begin. -/
def State.revoking (s : State) (r : ResId) (old : Port) : State :=
  (s.setLease r { s.lease r with revokeDue := false }).post .leases old
    ⟨.revoked, r.val, min (s.wallSince (s.lease r).grantWall) 16777215, s.tb.machTime⟩

theorem revocationEvent_of_due {s : State} {r : ResId} {old : Port} (holder : s.holder r = some old) (due : (s.lease r).revokeDue = true) :
    revocationEvent r s = if s.contested r then endLease r .revoke old (s.revoking r old)
      else s.setLease r { s.lease r with revokeDue := false } := by
  have holder' : (s.lease r).holder = some old := holder
  have contested : (s.setLease r { s.lease r with revokeDue := false }).contested r = s.contested r := by
    simp [State.contested]
  rw [← contested]
  simp only [revocationEvent, State.revoking, due, if_true, State.lease_setLease_self, holder']
  rfl

/-- Settles O28: a limit that has passed marks, revokes or withdraws, and one that has not changes nothing. -/
theorem limitsEndLeasesAndClaims : Obligations.LimitsEndLeasesAndClaims := by
  refine ⟨fun s r old holder => ⟨fun contested => ?mark, fun due contested => ⟨_, rfl, ?revoke⟩, fun due free => ?lapse⟩,
    fun s r => ⟨contested_iff, fun free => ?free⟩, fun s w => wallSince_eq,
    fun s r p => ⟨fun claim found limit passed => ⟨_, rfl, ?expire⟩, fun claim found early => ?early, fun absent => ?absent⟩⟩
  case mark => exact congrArg Host.Outcome.next (if_pos contested)
  case free => exact congrArg Host.Outcome.next (if_neg (by simp [free]))
  case lapse =>
    exact congrArg Host.Outcome.next ((revocationEvent_of_due holder due).trans (if_neg (by simp [free])))
  case revoke =>
    have posted : s.Posted (s.revoking r old) [(.leases, old, ⟨.revoked, r.val, min (s.wallSince (s.lease r).grantWall) 16777215,
        s.tb.machTime⟩)] := (posted_post (s.setLease r { s.lease r with revokeDue := false }) .leases old _).congr rfl (fun _ => rfl) rfl
    have lease : (s.revoking r old).lease r = { s.lease r with revokeDue := false } := State.lease_setLease_self ..
    have others : ∀ r', r' ≠ r → (s.revoking r old).lease r' = s.lease r' := fun r' hr => State.lease_setLease_ne _ _ _ _ (Ne.symm hr)
    rw [revocationEvent_of_due holder due, if_pos contested]
    by_cases hr : r = timeline
    · subst hr
      rw [endLease_timeline]
      refine ⟨by apply State.eq_of_fields <;> simp <;> rfl, fun r' hr => ?_, fun ne => absurd rfl ne, fun _ => ?_⟩
      · exact ((grantStep_leases _ _).1 r' hr).trans (others r' hr)
      · rw [← grantLevel_timeline (s.revoking timeline old)]
        exact (grantStep_grantsNext _ _).after (by rw [lease]) rfl rfl posted
    · rw [endLease_of_ne hr]
      refine ⟨rfl, fun r' hr => ?_, fun _ => ⟨posted.congr rfl (fun _ => rfl) rfl, (s.revoking r old).clock .leases, ?_⟩, fun e => absurd e hr⟩
      · exact (State.lease_setLease_ne _ _ _ _ (Ne.symm hr)).trans (others r' hr)
      · rw [State.lease_setLease_self, lease]
  case expire =>
    have expired : s.claimExpired claim = true := by simpa [State.claimExpired] using And.intro limit passed
    have event : waitLimitExpiryEvent r p s = (s.setLease r { s.lease r with queue := withoutPort p (s.lease r).queue }).post
        .leases p ⟨.claimExpired, r.val, claim.wait, s.tb.machTime⟩ := by
      simp only [waitLimitExpiryEvent, found, expired, if_true]
    rw [event]
    refine ⟨rfl, State.lease_setLease_self .., fun r' hr => State.lease_setLease_ne _ _ _ _ (Ne.symm hr), ?_⟩
    exact (posted_post (s.setLease r { s.lease r with queue := withoutPort p (s.lease r).queue }) .leases p _).congr
      rfl (fun _ => rfl) rfl
  case early =>
    have waits : s.claimExpired claim = false := by
      rcases early with none | early
      · simp [State.claimExpired, none]
      · simp [State.claimExpired, Nat.not_le.2 early]
    exact congrArg Host.Outcome.next (by simp only [waitLimitExpiryEvent, found, waits]; rfl)
  case absent =>
    have gone : ((s.lease r).queue.find? fun c => c.port == p) = none := List.find?_eq_none.2 fun c hc => by simpa using absent c hc
    exact congrArg Host.Outcome.next (by simp only [waitLimitExpiryEvent, gone])

end Sys2Proof.Machine
end

section
/-! PROOFS. The Lease Table's part of a teardown: claims withdrawn, leases ended, and the report. -/

namespace Sys2Proof.Machine

/-- The state in which the Lease Table has withdrawn every claim of a port (R90). -/
def State.withdrawn (s : State) (p : Port) (clk : Clock) : State :=
  { s.hear .leases clk with leases := mapRecords s.leases fun _ x => { x with queue := withoutPort p x.queue } }

theorem withdrawn_lease (s : State) (p : Port) (clk : Clock) (r : ResId) :
    (s.withdrawn p clk).lease r = { s.lease r with queue := (s.lease r).queue.filter fun c => c.port != p } :=
  mapRecords_get s.leases (fun _ x => { x with queue := withoutPort p x.queue }) r

/-! ### The leases that end -/

theorem endLeaseOf_of_other {p : Port} {s : State} {r : ResId} (h : s.holder r ≠ some p) : endLeaseOf p s r = s := if_neg h

/-- Leases on channels end one by one: the records of those the port holds change, and nothing else but them. -/
theorem endLeases_channels (p : Port) {rs : List ResId} (channels : ∀ r ∈ rs, r ≠ timeline) (u : State) :
    let v := rs.foldl (endLeaseOf p) u
    v = { u with leases := v.leases } ∧
    (∀ r ∈ rs, u.holder r = some p → ∃ k, v.lease r = { u.lease r with
      holder := none, revokeDue := false, ending := some ⟨.teardown, p, .purgeHanded, k⟩ }) ∧
    (∀ r, r ∉ rs ∨ u.holder r ≠ some p → v.lease r = u.lease r) := by
  induction rs generalizing u with
  | nil => exact ⟨rfl, nofun, fun _ _ => rfl⟩
  | cons r rs ih =>
    obtain ⟨hr, channels⟩ := List.forall_mem_cons.1 channels
    obtain ⟨frame, ended, kept⟩ := ih channels (endLeaseOf p u r)
    rw [List.foldl_cons]
    by_cases held : u.holder r = some p
    · have first : endLeaseOf p u r = u.setLease r { u.lease r with
          holder := none, revokeDue := false, ending := some ⟨.teardown, p, .purgeHanded, u.clock .leases⟩ } :=
        (if_pos held).trans (endLease_of_ne hr _ _ _)
      have others : ∀ r', r' ≠ r → (endLeaseOf p u r).lease r' = u.lease r' := fun r' hne => by
        rw [first]
        exact State.lease_setLease_ne _ _ _ _ (Ne.symm hne)
      have here : (rs.foldl (endLeaseOf p) (endLeaseOf p u r)).lease r = { u.lease r with
          holder := none, revokeDue := false, ending := some ⟨.teardown, p, .purgeHanded, u.clock .leases⟩ } := by
        rw [kept r (.inr (by rw [first]; simp [State.holder]))]
        rw [first]
        exact State.lease_setLease_self ..
      refine ⟨?_, fun r' hr' held' => ?_, fun r' hr' => ?_⟩
      · rw [frame]
        simp only [first]
        rfl
      · by_cases same : r' = r
        · subst same
          exact ⟨_, here⟩
        · rw [← others r' same]
          refine ended r' ((List.mem_cons.1 hr').resolve_left same) ?_
          rw [State.holder, others r' same]
          exact held'
      · have ne : r' ≠ r := by
          rintro rfl
          exact hr'.elim (fun h => h List.mem_cons_self) (fun h => h held)
        rw [← others r' ne]
        refine kept r' (hr'.imp (fun h hm => h (List.mem_cons_of_mem _ hm)) fun h => ?_)
        rw [State.holder, others r' ne]
        exact h
    · rw [endLeaseOf_of_other held] at frame ended kept ⊢
      refine ⟨frame, fun r' hr' held' => ?_, fun r' hr' => ?_⟩
      · rcases List.mem_cons.1 hr' with rfl | hr'
        · exact absurd held' held
        · exact ended r' hr' held'
      · exact kept r' (hr'.imp (fun h hm => h (List.mem_cons_of_mem _ hm)) id)

theorem finRange_resources : List.finRange 17 = (List.finRange 16).map resOf ++ [timeline] := List.finRange_succ_last

/-- The state in which the leases of a port on channels have ended. -/
def State.channelsEnded (s : State) (p : Port) : State := ((List.finRange 16).map resOf).foldl (endLeaseOf p) s

theorem channelsEnded_spec (u : State) (p : Port) :
    u.channelsEnded p = { u with leases := (u.channelsEnded p).leases } ∧
    (∀ c : Chan, u.chanHolder c = some p → ∃ k, (u.channelsEnded p).lease (resOf c) = { u.lease (resOf c) with
      holder := none, revokeDue := false, ending := some ⟨.teardown, p, .purgeHanded, k⟩ }) ∧
    (∀ r, r = timeline ∨ u.holder r ≠ some p → (u.channelsEnded p).lease r = u.lease r) := by
  have channels : ∀ r ∈ (List.finRange 16).map resOf, r ≠ timeline := fun r hr => by
    obtain ⟨c, -, rfl⟩ := List.mem_map.1 hr
    exact resOf_ne_timeline c
  obtain ⟨frame, ended, kept⟩ := endLeases_channels p channels u
  exact ⟨frame, fun c => ended _ (List.mem_map.2 ⟨c, List.mem_finRange c, rfl⟩),
    fun r hr => kept r (hr.imp (fun h hm => channels r hm h) id)⟩

/-! ### The purges handed over -/

theorem stampPurge_of_other {x : Lease} {p : Port} (h : ∀ e, x.ending = some e → ¬ (e.cause = .teardown ∧ e.old = p)) (clk : Clock) :
    x.stampPurge p clk = x := by
  unfold Lease.stampPurge
  split
  · next e he => exact if_neg fun ⟨cause, old, _⟩ => h e he ⟨cause, old⟩
  · rfl

theorem stampPurge_of_handed {x : Lease} {p : Port} {k : Clock} (h : x.ending = some ⟨.teardown, p, .purgeHanded, k⟩) (clk : Clock) :
    x.stampPurge p clk = { x with ending := some ⟨.teardown, p, .purgeHanded, clk⟩ } := by
  simp [Lease.stampPurge, h]

/-- The state in which all the port's leases have ended and the purges are handed over. -/
def State.leasesEnded (s : State) (p : Port) (clk : Clock) : State :=
  (endLeaseOf p ((s.withdrawn p clk).channelsEnded p) timeline).stampPurges p

theorem leaseTeardownEvent_of_handed {s : State} {p : Port} {clk : Clock} (h : (s.port p).parts.leases = .handed clk) :
    leaseTeardownEvent p s = leasePartCheck p ((s.leasesEnded p clk).setPort p { (s.leasesEnded p clk).port p with
      parts := { ((s.leasesEnded p clk).port p).parts with leases := .working } }) := by
  simp only [leaseTeardownEvent, h, State.leasesEnded, State.channelsEnded, State.withdrawn, finRange_resources, List.foldl_append,
    List.foldl_cons, List.foldl_nil, State.hear_leases]

section
variable {s : State} {p : Port} {clk : Clock}

theorem withdrawn_channelsEnded_lease (r : ResId) (h : r = timeline ∨ s.holder r ≠ some p) :
    ((s.withdrawn p clk).channelsEnded p).lease r = { s.lease r with queue := (s.lease r).queue.filter fun c => c.port != p } := by
  rw [(channelsEnded_spec (s.withdrawn p clk) p).2.2 r (h.imp id fun h => ?_), withdrawn_lease]
  rw [State.holder, withdrawn_lease]
  exact h

/-- A lease the port does not hold loses the port's claims. -/
theorem leasesEnded_of_other (fresh : ∀ r e, (s.lease r).ending = some e → ¬ (e.cause = .teardown ∧ e.old = p)) {r : ResId}
    (h : s.holder r ≠ some p) :
    (s.leasesEnded p clk).lease r = { s.lease r with queue := (s.lease r).queue.filter fun c => c.port != p } := by
  have before := withdrawn_channelsEnded_lease (clk := clk) r (.inr h)
  have lease : (endLeaseOf p ((s.withdrawn p clk).channelsEnded p) timeline).lease r =
      ((s.withdrawn p clk).channelsEnded p).lease r := by
    by_cases held : ((s.withdrawn p clk).channelsEnded p).holder timeline = some p
    · have ne : r ≠ timeline := by
        rintro rfl
        rw [State.holder, before] at held
        exact h held
      rw [endLeaseOf, if_pos held, endLease_timeline]
      exact (grantStep_leases _ _).1 r ne
    · rw [endLeaseOf_of_other held]
  rw [State.leasesEnded, State.stampPurges_lease, lease, before]
  exact stampPurge_of_other (x := { s.lease r with queue := (s.lease r).queue.filter fun c => c.port != p }) (fresh r) _

/-- A lease on a channel that the port holds ends, and its purge is handed over. -/
theorem leasesEnded_of_channel {c : Chan} (h : s.chanHolder c = some p) :
    ∃ k, (s.leasesEnded p clk).lease (resOf c) = { s.lease (resOf c) with
      holder := none, revokeDue := false, ending := some ⟨.teardown, p, .purgeHanded, k⟩
      queue := (s.lease (resOf c)).queue.filter fun c => c.port != p } := by
  obtain ⟨k, ended⟩ := (channelsEnded_spec (s.withdrawn p clk) p).2.1 c (by
    rw [State.chanHolder, State.holder, withdrawn_lease]
    exact h)
  rw [withdrawn_lease] at ended
  have lease : (endLeaseOf p ((s.withdrawn p clk).channelsEnded p) timeline).lease (resOf c) =
      ((s.withdrawn p clk).channelsEnded p).lease (resOf c) := by
    by_cases held : ((s.withdrawn p clk).channelsEnded p).holder timeline = some p
    · rw [endLeaseOf, if_pos held, endLease_timeline]
      exact (grantStep_leases _ _).1 _ (resOf_ne_timeline c)
    · rw [endLeaseOf_of_other held]
  refine ⟨(endLeaseOf p ((s.withdrawn p clk).channelsEnded p) timeline).clock .leases, ?_⟩
  rw [State.leasesEnded, State.stampPurges_lease, lease, ended]
  exact stampPurge_of_handed rfl _

/-- The timeline that the port holds is granted on in the same event. -/
theorem leasesEnded_of_timeline (h : s.holder timeline = some p) :
    (s.setLease timeline { s.lease timeline with
      queue := (s.lease timeline).queue.filter fun c => c.port != p }).GrantsNext (s.leasesEnded p clk) timeline 0 [] ∧
    ((s.leasesEnded p clk).lease timeline).ending = none := by
  have before := withdrawn_channelsEnded_lease (s := s) (p := p) (clk := clk) timeline (.inl rfl)
  have frame := (channelsEnded_spec (s.withdrawn p clk) p).1
  have held : ((s.withdrawn p clk).channelsEnded p).holder timeline = some p := by
    rw [State.holder, before]
    exact h
  have step : s.leasesEnded p clk = (grantStep timeline ((s.withdrawn p clk).channelsEnded p)).stampPurges p := by
    rw [State.leasesEnded, endLeaseOf, if_pos held, endLease_timeline]
  have grants := grantStep_grantsNext ((s.withdrawn p clk).channelsEnded p) timeline
  have ended := (grantStep_leases ((s.withdrawn p clk).channelsEnded p) timeline).2
  rw [step]
  generalize (s.withdrawn p clk).channelsEnded p = v at before frame grants ended ⊢
  rw [grantLevel_timeline] at grants
  have stamped : ((grantStep timeline v).stampPurges p).lease timeline = (grantStep timeline v).lease timeline := by
    rw [State.stampPurges_lease, Lease.stampPurge_of_none ended]
  refine ⟨(grants.after ?_ ?_ ?_ (.nil ?_)).congr_right stamped (by simp [State.stampPurges]), by rw [stamped, ended]⟩
  · rw [before, State.lease_setLease_self]
  · rw [frame]; simp [State.withdrawn]
  · rw [frame]; simp [State.withdrawn]
  · rw [frame]; simp [State.withdrawn]

theorem leasesEnded_frame : s.leasesEnded p clk =
    { s with leases := (s.leasesEnded p clk).leases, clocks := (s.leasesEnded p clk).clocks, posts := (s.leasesEnded p clk).posts } := by
  have frame := (channelsEnded_spec (s.withdrawn p clk) p).1
  have last : endLeaseOf p ((s.withdrawn p clk).channelsEnded p) timeline = { (s.withdrawn p clk).channelsEnded p with
      leases := (endLeaseOf p ((s.withdrawn p clk).channelsEnded p) timeline).leases,
      clocks := (endLeaseOf p ((s.withdrawn p clk).channelsEnded p) timeline).clocks,
      posts := (endLeaseOf p ((s.withdrawn p clk).channelsEnded p) timeline).posts } := by
    apply State.eq_of_fields <;> simp
  unfold State.leasesEnded
  generalize endLeaseOf p ((s.withdrawn p clk).channelsEnded p) timeline = w at last ⊢
  rw [last, frame]
  apply State.eq_of_fields <;> simp [State.withdrawn, State.stampPurges]

theorem leasesEnded_posts (h : s.holder timeline ≠ some p) : (s.leasesEnded p clk).posts = s.posts := by
  have before := withdrawn_channelsEnded_lease (s := s) (p := p) (clk := clk) timeline (.inl rfl)
  have frame := (channelsEnded_spec (s.withdrawn p clk) p).1
  rw [State.leasesEnded, endLeaseOf_of_other (by rw [State.holder, before]; exact h)]
  simp only [State.stampPurges]
  rw [frame]
  simp [State.withdrawn]

end

/-- Nobody who is not CLOSING gives T to a port that is: after its teardown the port neither holds T nor waits for it. -/
theorem grantsNext_excludes {s t : State} {p : Port} {r : ResId} {level : Nat} {first : List (PostBlock × Port × Notice)}
    (h : s.GrantsNext t r level first) (closing : s.isClosing p = true) (out : ∀ c ∈ (s.lease r).queue, c.port ≠ p) :
    t.holder r ≠ some p ∧ ∀ c ∈ (t.lease r).queue, c.port ≠ p := by
  obtain ⟨granted, vacant⟩ := h
  rcases queue_split s (s.lease r).queue with all | ⟨before, c, later, hq, ahead, hc⟩
  · obtain ⟨record, -⟩ := vacant all
    rw [State.holder, record]
    exact ⟨nofun, nofun⟩
  · obtain ⟨record, -⟩ := granted before c later hq ahead hc
    rw [State.holder, record]
    refine ⟨fun e => ?_, fun d hd => out d (by rw [hq]; simp [show d ∈ later from hd])⟩
    cases e
    exact absurd closing (by simp [hc])

section
variable {s : State} {p : Port} {clk : Clock}

/-- After the port's leases have ended it holds nothing and waits for nothing. -/
theorem leasesEnded_excludes (fresh : ∀ r e, (s.lease r).ending = some e → ¬ (e.cause = .teardown ∧ e.old = p))
    (closing : s.isClosing p = true) (r : ResId) :
    (s.leasesEnded p clk).holder r ≠ some p ∧ ∀ c ∈ ((s.leasesEnded p clk).lease r).queue, c.port ≠ p := by
  have out : ∀ r, ∀ c ∈ (s.lease r).queue.filter (fun c => c.port != p), c.port ≠ p := fun r c hc => by
    simpa using (List.mem_filter.1 hc).2
  rw [State.holder]
  by_cases held : s.holder r = some p
  · rcases Fin.eq_castSucc_or_eq_last r with ⟨c, rfl⟩ | last
    · obtain ⟨k, ended⟩ := leasesEnded_of_channel (clk := clk) (c := c) held
      rw [show (s.leasesEnded p clk).lease c.castSucc = _ from ended]
      exact ⟨nofun, out _⟩
    · obtain rfl : r = timeline := last
      exact grantsNext_excludes (leasesEnded_of_timeline held).1 closing (by rw [State.lease_setLease_self]; exact out timeline)
  · rw [leasesEnded_of_other fresh held]
    exact ⟨held, out r⟩

/-- A lease end of the teardown is left exactly when the port held a channel. -/
theorem leasesEnded_last (fresh : ∀ r e, (s.lease r).ending = some e → ¬ (e.cause = .teardown ∧ e.old = p)) :
    (∀ r e, ((s.leasesEnded p clk).lease r).ending = some e → ¬ (e.cause = .teardown ∧ e.old = p)) ↔
      ¬ ∃ c : Chan, s.chanHolder c = some p := by
  refine ⟨fun free ⟨c, held⟩ => ?_, fun none r e he => ?_⟩
  · obtain ⟨k, ended⟩ := leasesEnded_of_channel (clk := clk) held
    exact free (resOf c) _ (congrArg Lease.ending ended) ⟨rfl, rfl⟩
  · by_cases held : s.holder r = some p
    · obtain rfl : r = timeline := by
        rcases Fin.eq_castSucc_or_eq_last r with ⟨c, rfl⟩ | h
        · exact absurd ⟨c, held⟩ none
        · exact h
      cases (leasesEnded_of_timeline held).2.symm.trans he
    · rw [leasesEnded_of_other fresh held] at he
      exact fresh r e he

end

/-- Settles O29: claims first, then the leases on channels, then T, and the report when no channel was held. -/
theorem leaseTeardownEndsEverything : Obligations.LeaseTeardownEndsEverything := by
  intro s p clk handed _ fresh closing
  refine ⟨_, rfl, ?_⟩
  rw [leaseTeardownEvent_of_handed handed]
  have frame := leasesEnded_frame (s := s) (p := p) (clk := clk)
  have other := fun r => leasesEnded_of_other (clk := clk) fresh (r := r)
  have channel := fun c => leasesEnded_of_channel (s := s) (p := p) (clk := clk) (c := c)
  have tl := leasesEnded_of_timeline (s := s) (p := p) (clk := clk)
  have posts := leasesEnded_posts (s := s) (p := p) (clk := clk)
  have gone := leasesEnded_excludes (clk := clk) fresh closing
  have last := leasesEnded_last (clk := clk) fresh
  generalize s.leasesEnded p clk = x at frame other channel tl posts gone last ⊢
  have port : ∀ q, x.port q = s.port q := fun q => by rw [frame]; rfl
  rw [port]
  generalize hu : x.setPort p { s.port p with parts := { (s.port p).parts with leases := .working } } = u
  have uport : u.port p = { s.port p with parts := { (s.port p).parts with leases := .working } } := by
    rw [← hu]
    exact State.port_setPort_self ..
  obtain ⟨portsNe, isLast_port, notLast⟩ := leasePartCheck_spec p u
  have lease : ∀ r, (leasePartCheck p u).lease r = x.lease r := fun r => by rw [← hu]; simp [State.lease]
  have isLast : ((u.port p).parts.leases = .working ∧ u.teardownEnding p = false) ↔ ¬ ∃ c : Chan, s.chanHolder c = some p := by
    rw [uport, teardownEnding_iff, ← last, ← hu]
    exact and_iff_right rfl
  have tposts : (leasePartCheck p u).posts = x.posts := by rw [← hu]; simp
  refine ⟨?_, fun q hq => ?_, ?_, fun r => ?_, fun r => ?_, fun c held => ?_, fun r held => (lease r).trans (other r held),
    ?_, ?_⟩
  · rw [← hu]
    apply State.eq_of_fields <;> simp <;> rw [frame]
  · rw [portsNe q hq, ← hu, State.port_setPort_ne _ _ _ _ (Ne.symm hq), port]
  · by_cases done : (u.port p).parts.leases = .working ∧ u.teardownEnding p = false
    · rw [isLast_port done, uport]
    · rw [notLast done, uport]
  · rw [State.holder, lease]
    exact (gone r).1
  · rw [lease]
    exact (gone r).2
  · obtain ⟨k, ended⟩ := channel c held
    exact ⟨k, (lease _).trans ended⟩
  · by_cases held : s.holder timeline = some p
    · rw [if_pos held]
      exact (tl held).1.congr_right (lease timeline) tposts
    · rw [if_neg held]
      exact .nil (tposts.trans (posts held))
  · by_cases held : ∃ c : Chan, s.chanHolder c = some p
    · rw [if_pos held, notLast (mt isLast.1 (not_not.2 held)), uport]
    · rw [if_neg held, isLast_port (isLast.2 held)]
      exact ⟨_, rfl⟩

end Sys2Proof.Machine
end

section
/-! PROOFS. Qualified changes, the trip of a group, its lock reports and its purge, and the requests of the Trip Groups. -/

namespace Sys2Proof.Machine

/-- Settles O31: outside the reset state a sample that completes the run qualifies the line. -/
theorem qualifiedChangeIsHandedOn : Obligations.QualifiedChangeIsHandedOn := by
  intro s i level running completes
  have event : qualifiedChangeEvent i level s = qualifyLine i level s := if_pos ⟨running, completes⟩
  refine ⟨_, rfl, ?_⟩
  rw [event]
  exact ⟨by apply State.eq_of_fields <;> simp, fun j hj => by rw [line_qualifyLine, if_neg (Ne.symm hj)],
    qualifiesLine_qualifyLine s i level⟩

/-! ### The trip (R140, R141, R143) -/

theorem Group.tripsOn_iff {x : Group} {i : LineId} {level : Level} :
    x.tripsOn i level = true ↔ x.state = .armed ∧ x.sources.getLsbD i.val = true ∧ level = x.active := by
  rw [eq_comm (a := level)]
  simp [Group.tripsOn, and_assoc]

theorem lockMsgsTo_map (g : GroupId) (lock : Bool) (cs : ChanSet) (clk : Clock) :
    (lockMsgsTo g lock cs clk).map (fun x => (x.group, x.chan, x.lock)) = (chansOf cs).map fun c => (g, c, lock) := by
  simp [lockMsgsTo]

theorem trippedPorts_eq (s : State) (cs : ChanSet) : s.trippedPorts cs = (List.finRange 4).filter fun p =>
    s.holder timeline == some p || (List.finRange 16).any fun c => cs.getLsbD c.val && s.chanHolder c == some p := by
  simp only [State.trippedPorts, chansOf, List.any_filter]
  rfl

theorem posted_tripGroup (g : GroupId) (i : LineId) (s : State) : s.Posted (tripGroup g i s)
    ((s.trippedPorts (s.group g).channels).map fun p => (.groups, p, ⟨.tripped, g.val, i.val, s.tb.machTime⟩)) :=
  (posted_postEach (s.setGroup g { s.group g with
    state := .tripped, last := some (i, s.tb.machTime), locksOut := (chansOf (s.group g).channels).length }) .groups _ _).congr
    rfl (fun _ => rfl) rfl

theorem group_tripGroup (g g' : GroupId) (i : LineId) (s : State) : (tripGroup g i s).group g' =
    if g = g' then { s.group g with
      state := .tripped, last := some (i, s.tb.machTime), locksOut := (chansOf (s.group g).channels).length }
    else s.group g' := by
  simp only [tripGroup, State.group, State.postEach_frame]
  exact State.group_setGroup ..

theorem handed_tripGroup (g : GroupId) (i : LineId) (s : State) : ∃ k,
    (tripGroup g i s).lockMsgs = s.lockMsgs ++ lockMsgsTo g true (s.group g).channels k ∧
      (tripGroup g i s).offers = s.offers ++ [⟨.trip g i, k⟩] := by
  refine ⟨_, congrArg (· ++ _) ?_, congrArg (· ++ _) ?_⟩ <;> simp

/-- The group has heard of the change it takes, and the change is taken. -/
def State.lineMsgTaken (s : State) (m : LineMsg) : State := ({ s with lineMsgs := s.lineMsgs.erase m } : State).hear .groups m.clk

theorem groupLineChangeEvent_of_next {s : State} {g : GroupId} {i : LineId} {m : LineMsg} (h : s.nextLineMsg g i = some m) :
    groupLineChangeEvent g i s =
      if (s.group g).tripsOn i m.level then tripGroup g i (s.lineMsgTaken m) else s.lineMsgTaken m := by
  simp only [groupLineChangeEvent, h]
  rfl

/-- Settles O35: an ARMED group trips on the active level of a source, and any other change is taken and no more. -/
theorem activeLevelTripsTheGroup : Obligations.ActiveLevelTripsTheGroup := by
  intro s g i m next
  refine ⟨_, rfl, ?_⟩
  rw [groupLineChangeEvent_of_next next]
  by_cases trips : (s.group g).tripsOn i m.level = true
  · have posted := posted_tripGroup g i (s.lineMsgTaken m)
    rw [trippedPorts_eq] at posted
    have record := fun g' => group_tripGroup g g' i (s.lineMsgTaken m)
    obtain ⟨k, locks, offers⟩ := handed_tripGroup g i (s.lineMsgTaken m)
    rw [if_pos trips, if_pos (Group.tripsOn_iff.1 trips)]
    refine ⟨fun g' hg => (record g').trans (if_neg (Ne.symm hg)), ?_, (record g).trans (if_pos rfl), ⟨_, locks, lockMsgsTo_map ..⟩,
      ⟨_, rfl, offers⟩, posted.congr rfl (fun _ => rfl) rfl⟩
    apply State.eq_of_fields <;> simp [tripGroup, State.lineMsgTaken]
  · rw [if_neg trips, if_neg (mt Group.tripsOn_iff.2 trips)]
    exact ⟨fun _ _ => rfl, rfl⟩

/-! ### Lock reports and the purge (R44, R142) -/

theorem lockReportEvent_of_report {s : State} {g : GroupId} {k : Clock} {later : List Clock} (h : (s.group g).reports = k :: later) :
    ∃ k', lockReportEvent g s = (s.hear .groups k).setGroup g { s.group g with
      reports := later
      locksOut := (s.group g).locksOut - 1
      purges := if (s.group g).locksOut = 1 then (s.group g).purges ++ [⟨(s.group g).channels, k'⟩] else (s.group g).purges } := by
  simp only [lockReportEvent, h]
  exact ⟨_, rfl⟩

/-- The schedule has heard of a trip purge, has posted what it drops, and the entries have left. -/
def State.tripPurged (s : State) (purge : TripPurge) : State :=
  let dropped := (s.hear .schedule purge.clk).postDropped .trip (s.sched.entries.filter fun e => e.namesAny purge.channels)
  { dropped with sched := s.sched.remove fun e => e.namesAny purge.channels }

theorem tripPurgeEvent_of_handed {s : State} {g : GroupId} {purge : TripPurge} {later : List TripPurge}
    (handed : (s.group g).purges = purge :: later) (idle : s.scheduleBusy = false) :
    tripPurgeEvent g s = (s.tripPurged purge).setGroup g { s.group g with purges := later } := by
  have busy : ¬ s.scheduleBusy = true := by simp [idle]
  simp only [tripPurgeEvent, handed, if_neg busy, State.tripPurged]
  simp [State.group]

/-- Settles O36: the oldest report is taken, the last one hands the purge, and the oldest purge is taken. -/
theorem lastLockReportHandsThePurge : Obligations.LastLockReportHandsThePurge := by
  refine fun s g => ⟨fun k later reports => ⟨_, rfl, ?_⟩, fun purge later handed idle => ⟨_, rfl, ?_⟩⟩
  · obtain ⟨k', event⟩ := lockReportEvent_of_report reports
    rw [event]
    refine ⟨rfl, fun g' hg => State.group_setGroup_ne _ _ _ _ (Ne.symm hg), ?_, ?_⟩
    · rw [State.group_setGroup_self]
    · rw [State.group_setGroup_self]
      by_cases last : (s.group g).locksOut = 1 <;> simp [last]
  · have posted := posted_postDropped (s.hear .schedule purge.clk) .trip (s.sched.entries.filter fun e => e.namesAny purge.channels)
    rw [tripPurgeEvent_of_handed handed idle]
    refine ⟨by apply State.eq_of_fields <;> simp [State.tripPurged], State.group_setGroup_self .., fun g' hg => ?_, rfl,
      posted.congr rfl (fun _ => rfl) rfl⟩
    rw [State.group_setGroup_ne _ _ _ _ (Ne.symm hg)]
    simp [State.tripPurged, State.group]

/-! ### TRIP_CONFIG, ARM and DISARM (R136 to R139) -/

theorem tripConfigRequest_of_coordinator {s : State} {p : Port} {payload : List Byte} {g : GroupId} {sources : LineSet} {active : Level}
    {channels : ChanSet} (args : tripConfigArgs payload = some (g, sources, active, channels)) (holder : s.isCoordinator p = true) :
    tripConfigRequest p payload s = if (s.group g).state ≠ .disarmed then (s, refuse .notDisarmed)
      else if (s.group g).locksOut ≠ 0 then (s, refuse .locksPending)
      else (s.setGroup g { s.group g with sources := sources, active := active, channels := channels, last := none }, okEmpty) := by
  simp only [tripConfigRequest, args]
  exact if_pos holder

theorem sourceActive_iff {s : State} {g : GroupId} : s.sourceActive g = true ↔
    ∃ i : LineId, (s.group g).sources.getLsbD i.val = true ∧ (s.line i).qualified = (s.group g).active := by
  simp [State.sourceActive]

/-- What leaving for a state that is not TRIPPED does: the group's record, and the unlocks when it was TRIPPED. -/
theorem leaveTripped_spec (g : GroupId) (state : GroupState) (s : State) :
    leaveTripped g state s = { s with groups := (leaveTripped g state s).groups, lockMsgs := (leaveTripped g state s).lockMsgs } ∧
    (∃ new : List LockMsg, (leaveTripped g state s).lockMsgs = s.lockMsgs ++ new ∧
      new.map (fun x => (x.group, x.chan, x.lock)) = if (s.group g).state = .tripped then
        (chansOf (s.group g).channels).map fun c => (g, c, false) else []) ∧
    (leaveTripped g state s).group g = { s.group g with state := state } ∧
    ∀ g', g' ≠ g → (leaveTripped g state s).group g' = s.group g' := by
  unfold leaveTripped
  dsimp only
  split
  · exact ⟨rfl, ⟨_, rfl, lockMsgsTo_map ..⟩, State.group_setGroup_self .., fun g' hg => State.group_setGroup_ne _ _ _ _ (Ne.symm hg)⟩
  · exact ⟨rfl, ⟨[], (List.append_nil _).symm, rfl⟩, State.group_setGroup_self ..,
      fun g' hg => State.group_setGroup_ne _ _ _ _ (Ne.symm hg)⟩

theorem armRequest_of_coordinator {s : State} {p : Port} {payload : List Byte} {g : GroupId} (arg : groupArg payload = some g)
    (holder : s.isCoordinator p = true) : armRequest p payload s =
      if (s.group g).locksOut ≠ 0 then (s, refuse .locksPending)
      else if (s.group g).state = .armed then (s, okEmpty)
      else if (s.group g).sources = 0 ∨ (s.group g).channels = 0 then (s, refuse .badArg)
      else if s.sourceActive g then (s, refuse .lineActive)
      else (leaveTripped g .armed s, okEmpty) := by
  simp only [armRequest, arg]
  exact if_pos holder

theorem disarmRequest_of_coordinator {s : State} {p : Port} {payload : List Byte} {g : GroupId} (arg : groupArg payload = some g)
    (holder : s.isCoordinator p = true) : disarmRequest p payload s = (leaveTripped g .disarmed s, okEmpty) := by
  simp only [disarmRequest, arg]
  exact if_pos holder

/-- A request of the groups that leaves TRIPPED or any other state for `state`, seen from the state before it was taken. -/
theorem leaveTripped_taken {k : ReqKind} {p : Port} {body : List Byte → State → State × Answer} {s : State} {payload : List Byte}
    {clk : Clock} (h : s.handedRequest p k = some (payload, clk)) {g : GroupId} {state : GroupState}
    (does : body payload (s.hear .groups clk) = (leaveTripped g state (s.hear .groups clk), okEmpty)) :
    let t := takeRequest k .groups p body s
    s.Answered t p okEmpty ∧
      t = { s with groups := t.groups, lockMsgs := t.lockMsgs, clocks := t.clocks, ports := t.ports } ∧
      (∃ new : List LockMsg, t.lockMsgs = s.lockMsgs ++ new ∧
        new.map (fun x => (x.group, x.chan, x.lock)) = if (s.group g).state = .tripped then
          (chansOf (s.group g).channels).map fun c => (g, c, false) else []) ∧
      t.group g = { s.group g with state := state } ∧ ∀ g', g' ≠ g → t.group g' = s.group g' := by
  obtain ⟨frame, unlocks, record, others⟩ := leaveTripped_spec g state (s.hear .groups clk)
  obtain ⟨answered, left⟩ := request_taken h does (by rw [frame]; rfl)
  refine ⟨answered, ?_, ?_⟩
  · rw [left, frame]
    rfl
  · rw [left]
    exact ⟨unlocks, record, others⟩

/-- Settles O37: each check of the three requests in its order, and then the record and the unlocks. -/
theorem groupRequestsFollowTheirChecks : Obligations.GroupRequestsFollowTheirChecks := by
  refine fun p s payload clk holder => ⟨fun g sources active channels h args => ⟨_, rfl, ?config⟩, fun g arg =>
    ⟨fun h => ⟨_, rfl, ?arm⟩, fun h => ⟨_, rfl, leaveTripped_taken h (disarmRequest_of_coordinator arg holder)⟩⟩⟩
  case config =>
    have does := tripConfigRequest_of_coordinator (s := s.hear .groups clk) args holder
    by_cases armed : (s.group g).state ≠ .disarmed
    · rw [if_pos armed]
      exact request_refused h (does.trans (if_pos armed))
    rw [if_neg armed]
    replace does := does.trans (if_neg armed)
    by_cases pending : (s.group g).locksOut ≠ 0
    · rw [if_pos pending]
      exact request_refused h (does.trans (if_pos pending))
    rw [if_neg pending]
    obtain ⟨answered, left⟩ := request_taken h (does.trans (if_neg pending)) rfl
    refine ⟨answered, by rw [left]; rfl, ?_⟩
    rw [left]
    exact ⟨State.group_setGroup_self .., fun g' hg => State.group_setGroup_ne _ _ _ _ (Ne.symm hg)⟩
  case arm =>
    have does := armRequest_of_coordinator (s := s.hear .groups clk) arg holder
    by_cases pending : (s.group g).locksOut ≠ 0
    · rw [if_pos pending]
      exact request_refused h (does.trans (if_pos pending))
    rw [if_neg pending]
    replace does := does.trans (if_neg pending)
    by_cases armed : (s.group g).state = .armed
    · rw [if_pos armed]
      exact request_answered h (does.trans (if_pos armed))
    rw [if_neg armed]
    replace does := does.trans (if_neg armed)
    by_cases none : (s.group g).sources = 0 ∨ (s.group g).channels = 0
    · rw [if_pos none]
      exact request_refused h (does.trans (if_pos none))
    rw [if_neg none]
    replace does := does.trans (if_neg none)
    by_cases active : s.sourceActive g = true
    · rw [if_pos (sourceActive_iff.1 active)]
      exact request_refused h (does.trans (if_pos active))
    rw [if_neg (mt sourceActive_iff.2 active)]
    exact leaveTripped_taken h (does.trans (if_neg active))

end Sys2Proof.Machine
end

section
/-! PROOFS. The Capture Journal: what storing an entry does to the ring, the cursors and the latches, offers, subscriptions and READ. -/

namespace Sys2Proof.Machine

/-! ### Ports that read a kind (R115, R128) -/

/-- An OPEN port's subscription matches these kinds. -/
def State.reads (s : State) (kinds : KindMask) (p : Port) : Bool :=
  s.isOpen p && (s.sub p).any fun sub => (kinds &&& sub.mask) != 0

theorem reads_of_sub {s : State} {kinds : KindMask} {p : Port} {x : Option Subscription} (h : s.sub p = x) :
    s.reads kinds p = (s.isOpen p && x.any fun sub => (kinds &&& sub.mask) != 0) := by rw [State.reads, h]

theorem reads_congr {s t : State} {p : Port} (ports : t.ports = s.ports) (masks : (t.sub p).map Subscription.mask = (s.sub p).map Subscription.mask)
    (kinds : KindMask) : t.reads kinds p = s.reads kinds p := by
  have isOpen : t.isOpen p = s.isOpen p := congrArg (fun ps : Vector PortRec 4 => ps[p].session == .opened) ports
  have any : ∀ x : Option Subscription, (x.any fun sub => (kinds &&& sub.mask) != 0) =
      (x.map Subscription.mask).any fun mask => (kinds &&& mask) != 0 := fun x => by cases x <;> rfl
  rw [State.reads, State.reads, isOpen, any, any, masks]

theorem State.reads_eq_match (s : State) (kinds : KindMask) (p : Port) : s.reads kinds p = (s.isOpen p && (match s.sub p with
    | some sub => (kinds &&& sub.mask) != 0
    | none => false)) := by
  unfold State.reads
  cases s.sub p <;> rfl

theorem readsGap_eq (s : State) (p : Port) : s.readsGap p = s.reads s.journal.lostMask p := by
  unfold State.readsGap State.reads
  cases s.sub p <;> rfl

theorem offerWanted_iff {s : State} {o : OfferBody} :
    s.offerWanted o = true ↔ ∃ p sub, s.isOpen p = true ∧ s.sub p = some sub ∧ o.within sub.mask := by
  simp only [State.offerWanted, List.any_eq_true, List.mem_finRange, true_and, Bool.and_eq_true]
  refine exists_congr fun p => ?_
  cases s.sub p with
  | none => simp
  | some sub => simp [← OfferBody.kind_and]

/-! ### JOURNAL_READY (R128, R181) -/

theorem readyCheck_eq (e : JournalEntry) (s : State) (p : Port) : readyCheck e s p =
    if s.reads e.body.kinds p = true ∧ (s.queue p).latch = false then
      (s.setQueue p { s.queue p with latch := true }).post .journal p ⟨.journalReady, 0, e.seq.toNat % 2 ^ 24, s.tb.machTime⟩
    else s := by
  unfold readyCheck
  cases h : s.sub p with
  | none => simp [reads_of_sub h]
  | some sub => simp [reads_of_sub h, JournalEntry.hits, and_assoc]

/-- The checks of several ports, each made once: who gets the latch, and the posts in the order of the ports. -/
theorem readyChecks_spec (e : JournalEntry) {ps : List Port} (once : ps.Nodup) (s : State) :
    (∀ p, (ps.foldl (readyCheck e) s).queue p =
      { s.queue p with latch := (s.queue p).latch || (decide (p ∈ ps) && s.reads e.body.kinds p) }) ∧
    s.Posted (ps.foldl (readyCheck e) s) ((ps.filter fun p => s.reads e.body.kinds p && !(s.queue p).latch).map
      fun p => (.journal, p, ⟨.journalReady, 0, e.seq.toNat % 2 ^ 24, s.tb.machTime⟩)) := by
  induction ps generalizing s with
  | nil => exact ⟨fun p => by simp, .nil rfl⟩
  | cons q ps ih =>
    obtain ⟨fresh, once⟩ := List.nodup_cons.1 once
    obtain ⟨u, hu⟩ : ∃ u, readyCheck e s q = u := ⟨_, rfl⟩
    obtain ⟨queues, posted⟩ := ih once u
    have ports : u.ports = s.ports := by rw [← hu]; simp
    have reads : ∀ p, u.reads e.body.kinds p = s.reads e.body.kinds p := fun p =>
      reads_congr ports (by rw [← hu]; simp [State.sub]) _
    have tb : u.tb = s.tb := by rw [← hu]; simp
    have others : ∀ p, q ≠ p → u.queue p = s.queue p := fun p hp => by
      rw [← hu, readyCheck_eq]
      split
      · exact State.queue_setQueue_ne _ _ _ _ hp
      · rfl
    have mine : u.queue q = { s.queue q with latch := (s.queue q).latch || s.reads e.body.kinds q } := by
      rw [← hu, readyCheck_eq]
      split
      · next due => exact (State.queue_setQueue_self ..).trans (by simp [due])
      · next no =>
        have kept : ((s.queue q).latch || s.reads e.body.kinds q) = (s.queue q).latch := by
          cases hl : (s.queue q).latch with
          | true => rfl
          | false => simpa [hl] using no
        rw [kept]
    have first : s.Posted u (([q].filter fun p => s.reads e.body.kinds p && !(s.queue p).latch).map
        fun p => (.journal, p, ⟨.journalReady, 0, e.seq.toNat % 2 ^ 24, s.tb.machTime⟩)) := by
      rw [← hu, readyCheck_eq]
      split
      · next due =>
        have posts := (posted_post (s.setQueue q { s.queue q with latch := true }) .journal q
          ⟨.journalReady, 0, e.seq.toNat % 2 ^ 24, s.tb.machTime⟩).congr (s' := s) rfl (fun _ => rfl) rfl
        simpa [due] using posts
      · next no =>
        rw [List.filter_eq_nil_iff.2 (by simpa using no)]
        exact .nil rfl
    have later : (ps.filter fun p => u.reads e.body.kinds p && !(u.queue p).latch) =
        ps.filter fun p => s.reads e.body.kinds p && !(s.queue p).latch :=
      List.filter_congr fun p hp => by rw [reads, others p fun h => fresh (h ▸ hp)]
    rw [List.foldl_cons, hu]
    refine ⟨fun p => ?_, ?_⟩
    · rw [queues, reads]
      by_cases hp : q = p
      · subst hp
        simp [mine, fresh]
      · rw [others p hp]
        simp [Ne.symm hp]
    · rw [later, tb] at posted
      have both := first.trans (fun p => by rw [State.port, ports]; rfl) posted
      rwa [← List.map_append, ← List.filter_append] at both

/-! ### Storing an entry (R119, R120) -/

theorem makeRoom_masks (j : Journal) (p : Port) : j.makeRoom.subs[p].map Subscription.mask = j.subs[p].map Subscription.mask := by
  rcases makeRoom_subs j p with h | h
  · rw [h]
  · rw [h, Option.map_map]
    exact congrArg (Option.map · _) (funext fun sub => Subscription.passTail_mask ..)

/-- Room made and an entry pushed: a full ring loses its tail, and the cursors that held it move on. -/
theorem makeRoom_push {j : Journal} (capacity : j.ring.length ≤ 512) (body : EntryBody) :
    (j.makeRoom.push body).ring = (if j.ring.length < 512 then j.ring else j.ring.tail) ++ [⟨j.seqCounter, body⟩] ∧
    (j.makeRoom.push body).seqCounter = j.seqCounter + 1 ∧ (j.makeRoom.push body).lostCount = j.lostCount ∧
    (j.makeRoom.push body).lostMask = j.lostMask ∧
    ∀ p : Port, (j.makeRoom.push body).subs[p] = j.subs[p].map fun sub =>
      if j.ring.length = 512 ∧ sub.cursor = j.tailSeq then { sub with
        cursor := (j.makeRoom.push body).tailSeq, overtaken := sub.overtaken || sub.mode == .skim }
      else sub := by
  by_cases full : j.ring.length = 512
  · have room : j.makeRoom = j.dropTail := if_pos (by simp [Config.journalCapacity, full])
    rw [Journal.tailSeq_push, room]
    refine ⟨by rw [if_neg (by omega)]; rfl, rfl, rfl, rfl, fun p => ?_⟩
    simp only [full, true_and]
    exact Journal.dropTail_subs j p
  · have room : j.makeRoom = j := if_neg (by simp only [Config.journalCapacity]; omega)
    rw [room]
    refine ⟨by rw [if_pos (by omega)]; rfl, rfl, rfl, rfl, fun p => ?_⟩
    simp only [full, false_and, if_false]
    exact Option.map_id'.symm

theorem storeEntry_spec (body : EntryBody) (s : State) :
    (∀ p, (storeEntry body s).queue p = { s.queue p with latch := (s.queue p).latch || s.reads body.kinds p }) ∧
    s.Posted (storeEntry body s) (((List.finRange 4).filter fun p => s.reads body.kinds p && !(s.queue p).latch).map
      fun p => (.journal, p, ⟨.journalReady, 0, s.journal.seqCounter.toNat % 2 ^ 24, s.tb.machTime⟩)) := by
  have checks := readyChecks_spec ⟨s.journal.seqCounter, body⟩ (List.nodup_finRange 4)
    { s with journal := s.journal.makeRoom.push body }
  have reads : ∀ p, ({ s with journal := s.journal.makeRoom.push body } : State).reads body.kinds p = s.reads body.kinds p :=
    fun p => reads_congr (s := s) (t := { s with journal := s.journal.makeRoom.push body }) rfl (makeRoom_masks s.journal p) _
  obtain ⟨queues, posted⟩ := checks
  simp only [reads, List.mem_finRange, decide_true, Bool.true_and] at queues posted
  exact ⟨queues, posted.congr rfl (fun _ => rfl) rfl⟩

/-! ### Taking an offer (R114, R118 to R121) -/

theorem stampOffer_kinds (s : State) (o : OfferBody) : (s.stampOffer o).kinds = o.kind := by cases o <;> rfl

/-- HELD tells HOLD and a creep hold phase (R114). -/
theorem not_running_eq (tb : Timebase) : (!tb.running) = (tb.mode == .hold || (tb.mode == .creep && tb.creepHolding)) := by
  cases hm : tb.mode <;> simp [Timebase.running, hm]

/-- The stamps of an offer: machine time, or a mark's own tick time, and the low part of wall time. -/
theorem stampOffer_eq (s : State) (o : OfferBody) :
    let held := s.tb.mode == .hold || (s.tb.mode == .creep && s.tb.creepHolding)
    let wall := s.tb.wallTime % 2 ^ 32
    s.stampOffer o = match o with
      | .edge i rising => .edge i rising s.tb.machTime wall held
      | .mark owner tag time => .mark owner tag time wall
      | .trip g i => .trip g i s.tb.machTime wall held := by
  dsimp only
  rw [← not_running_eq]
  cases o <;> rfl

theorem takeOffer_discarded {s : State} {o : OfferBody} (h : s.offerWanted o = false) : takeOffer o s = s :=
  if_neg (by simp [h])

theorem takeOffer_stored {s : State} {o : OfferBody} (wanted : s.offerWanted o = true)
    (room : s.journal.ring.length < 512 ∨ s.journal.tailNeeded = false) : takeOffer o s = storeEntry (s.stampOffer o) s :=
  (if_pos wanted).trans (if_pos room)

theorem takeOffer_lost {s : State} {o : OfferBody} (wanted : s.offerWanted o = true) (full : s.journal.ring.length = 512)
    (needed : s.journal.tailNeeded = true) : takeOffer o s = { s with journal := s.journal.lose o.kind } :=
  (if_pos wanted).trans (if_neg (by simp [Config.journalCapacity, full, needed]))

/-- The journal has heard of the offer it takes, and the offer is taken. -/
def State.offerTaken (s : State) (o : Offer) : State := ({ s with offers := s.offers.erase o } : State).hear .journal o.clk

theorem journalOfferEvent_of_next {s : State} {src : OfferSource} {o : Offer}
    (h : (s.offers.find? fun x => x.body.source == src) = some o) : journalOfferEvent src s = takeOffer o.body (s.offerTaken o) := by
  simp only [journalOfferEvent, h]
  rfl

/-- Settles O32: wanted or not, room or not, and the storing of an entry. -/
theorem offerIsStoredOrLost : Obligations.OfferIsStoredOrLost := by
  refine ⟨fun s src o next => ?_, fun j => ?tail, OfferBody.kind_and, JournalEntry.hits_iff⟩
  case tail =>
    simp only [← JournalEntry.hits_iff]
    exact j.tailNeeded_iff
  dsimp only
  refine ⟨_, rfl, ?_⟩
  rw [journalOfferEvent_of_next next]
  have wantedIff := offerWanted_iff (s := s.offerTaken o) (o := o.body)
  refine ⟨by apply State.eq_of_fields <;> simp [State.offerTaken], fun unwanted => ?_, fun wanted full needed => ?_,
    fun wanted capacity room => ?_⟩
  · rw [takeOffer_discarded (eq_false_of_ne_true (mt wantedIff.1 unwanted))]
    exact ⟨rfl, rfl, .nil rfl⟩
  · rw [takeOffer_lost (wantedIff.2 wanted) full needed]
    exact ⟨rfl, rfl, .nil rfl⟩
  · rw [takeOffer_stored (wantedIff.2 wanted) room]
    obtain ⟨queues, posted⟩ := storeEntry_spec ((s.offerTaken o).stampOffer o.body) (s.offerTaken o)
    obtain ⟨ring, counter, count, lost, subs⟩ := makeRoom_push (j := s.journal) capacity ((s.offerTaken o).stampOffer o.body)
    have reads : ∀ p, (s.offerTaken o).reads ((s.offerTaken o).stampOffer o.body).kinds p = (s.isOpen p && (match s.sub p with
        | some sub => (o.body.kind &&& sub.mask) != 0
        | none => false)) := fun p => by
      rw [stampOffer_kinds]
      exact State.reads_eq_match s o.body.kind p
    simp only [reads] at queues posted
    rw [List.filter_congr fun p _ => Bool.and_right_comm ..] at posted
    rw [storeEntry_journal]
    refine ⟨ring.trans ?_, counter, count, lost, posted.congr rfl (fun _ => rfl) rfl, queues, fun p => ?_⟩
    · rw [stampOffer_eq]
      rfl
    · exact (congrArg (fun j : Journal => j.subs[p]) (storeEntry_journal ..)).trans (subs p)

/-! ### The pending GAP (R120, R123, R128) -/

theorem storeGap_eq (s : State) : storeGap s = { s with
    journal := (storeGap s).journal, queues := (storeGap s).queues, clocks := (storeGap s).clocks, posts := (storeGap s).posts } := by
  apply State.eq_of_fields <;> simp

/-- With its pending losses taken out, the journal is one that stores the GAP. -/
def State.noLosses (s : State) : State := { s with journal := { s.journal with lostCount := 0, lostMask := 0 } }

theorem storeGap_of_due {s : State} (due : s.gapDue = true) :
    storeGap s = storeEntry (.gap s.journal.lostCount s.journal.lostMask s.wallLow) s.noLosses :=
  if_pos (gapDue_iff.1 due)

/-- Storing the GAP touches the latches of its readers alone. -/
theorem storeGap_queue (s : State) (p : Port) :
    (storeGap s).queue p = { s.queue p with latch := (s.queue p).latch || (s.gapDue && s.readsGap p) } := by
  cases due : s.gapDue with
  | false =>
    rw [storeGap_of_not_due due]
    simp
  | true =>
    rw [storeGap_of_due due, (storeEntry_spec _ s.noLosses).1, readsGap_eq, Bool.true_and]
    rfl

/-- The GAP is stored with the tail of the full ring dropped, or nothing happens. -/
theorem storeGap_settled {s : State} (h : s.gapDue = false ∨ s.journal.ring.length = 512) : s.GapSettled (storeGap s) := by
  unfold State.GapSettled
  cases due : s.gapDue with
  | false =>
    rw [if_neg Bool.false_ne_true, storeGap_of_not_due due]
    exact ⟨rfl, rfl, .nil rfl⟩
  | true =>
    have full : s.journal.ring.length = 512 := h.resolve_left (by simp [due])
    have reads : ∀ p, s.readsGap p = s.noLosses.reads (EntryBody.gap s.journal.lostCount s.journal.lostMask s.wallLow).kinds p :=
      readsGap_eq s
    obtain ⟨-, posted⟩ := storeEntry_spec (.gap s.journal.lostCount s.journal.lostMask s.wallLow) s.noLosses
    obtain ⟨ring, counter, count, lost, subs⟩ := makeRoom_push (j := s.noLosses.journal) full.le
      (.gap s.journal.lostCount s.journal.lostMask s.wallLow)
    rw [if_neg (by rw [State.noLosses, full]; decide)] at ring
    simp only [show s.noLosses.journal.ring.length = 512 from full, true_and] at subs
    simp only [← reads] at posted
    rw [if_pos rfl]
    refine ⟨?_, ?_, ?_, ?_, fun p => ?_, fun p => ?_, ?_⟩
    · rw [storeGap_journal_of_due due]
      exact ring
    · rw [storeGap_journal_of_due due]
      exact counter
    · rw [storeGap_journal_of_due due]
      exact count
    · rw [storeGap_journal_of_due due]
      exact lost
    · rw [State.sub, storeGap_journal_of_due due]
      exact subs p
    · rw [storeGap_queue, due, Bool.true_and]
    · rw [storeGap_of_due due]
      exact posted.congr rfl (fun _ => rfl) rfl

/-- A GAP is due over a full ring. -/
theorem gapDue_or_full {s : State} (h : s.journal.lostCount = 0 ∨ s.journal.ring.length = 512) :
    s.gapDue = false ∨ s.journal.ring.length = 512 :=
  h.imp_left fun none => by simp [State.gapDue, none]

/-! ### Subscriptions (R116, R117, R130) -/

section
variable {s : State} {p : Port} {payload : List Byte} {mask : KindMask} {mode : SubMode} {oldest : Bool}

theorem subscribeRequest_again (args : subscribeArgs payload = some (mask, mode, oldest)) (known : (s.sub p).isSome) :
    subscribeRequest p payload s = (s, refuse .subscribed) := by
  obtain ⟨sub, known⟩ := Option.isSome_iff_exists.1 known
  simp only [subscribeRequest, args, known]

theorem subscribeRequest_new (args : subscribeArgs payload = some (mask, mode, oldest)) (fresh : s.sub p = none) :
    subscribeRequest p payload s =
      (s.setSub p (some ⟨mask, mode, if oldest then s.journal.tailSeq else s.journal.seqCounter, false⟩),
        okWith (subscribePayload (if oldest then s.journal.tailSeq else s.journal.seqCounter)
          (s.journal.more ⟨mask, mode, if oldest then s.journal.tailSeq else s.journal.seqCounter, false⟩))) := by
  simp only [subscribeRequest, args, fresh]

theorem unsubscribeRequest_none (payload : List Byte) (h : s.sub p = none) :
    unsubscribeRequest p payload s = (s, refuse .notSubscribed) := by
  simp only [unsubscribeRequest, h]

theorem unsubscribeRequest_some (payload : List Byte) (h : (s.sub p).isSome) :
    unsubscribeRequest p payload s = (storeGap ((s.setSub p none).clearLatch p), okEmpty) := by
  obtain ⟨sub, h⟩ := Option.isSome_iff_exists.1 h
  simp only [unsubscribeRequest, h]

/-- Only a subscription from the tail has entries to read at once. -/
theorem more_of_new {j : Journal} (ok : j.Ok) (mask : KindMask) (mode : SubMode) (oldest : Bool) :
    j.more ⟨mask, mode, if oldest then j.tailSeq else j.seqCounter, false⟩ = true ↔
      oldest = true ∧ ∃ e ∈ j.ring, e.hits mask = true := by
  have sound := (Journal.ok_iff.1 ok).1
  cases oldest with
  | true => simp [Journal.more, Journal.fromCursor, Journal.Sound.position_tail]
  | false => simp [Journal.more, Journal.fromCursor, sound.position_head]

theorem flag_bytes (b : Bool) : bytesOf 1 (bit b 0) = [if b then 1 else 0] := by cases b <;> rfl

/-- The journal's part reported done at the port. -/
def State.journalPartDone (s : State) (p : Port) : State :=
  s.setPort p { s.port p with parts := { (s.port p).parts with journal := .reported (s.clock .journal) } }

theorem journalTeardownEvent_of_none {clk : Clock} (h : (s.port p).parts.journal = .handed clk) (none : s.sub p = none) :
    journalTeardownEvent p s = (s.hear .journal clk).journalPartDone p := by
  simp only [journalTeardownEvent, h, State.hear_sub, none]
  rfl

theorem journalTeardownEvent_of_some {clk : Clock} (h : (s.port p).parts.journal = .handed clk) (known : (s.sub p).isSome) :
    journalTeardownEvent p s = (storeGap ((s.hear .journal clk).setSub p none)).journalPartDone p := by
  obtain ⟨sub, known⟩ := Option.isSome_iff_exists.1 known
  simp only [journalTeardownEvent, h, State.hear_sub, known]
  rfl

end

/-- What GapSettled says of the later state concerns its journal, queues and posts; of the earlier one, its clocks do not matter. -/
theorem State.GapSettled.congr {s t t' : State} {clks : Vector Clock 15} (h : ({ s with clocks := clks } : State).GapSettled t)
    (journal : t'.journal = t.journal) (queues : t'.queues = t.queues) (posts : t'.posts = t.posts) : s.GapSettled t' := by
  have sub : ∀ p, t'.sub p = t.sub p := fun p => congrArg (fun j : Journal => j.subs[p]) journal
  have queue : ∀ p, t'.queue p = t.queue p := fun p => congrArg (·[p]) queues
  have posted : ∀ l, s.Posted t' l ↔ ({ s with clocks := clks } : State).Posted t l := fun l => by
    simp only [State.Posted, posts]
    rfl
  unfold State.GapSettled at h ⊢
  simp only [journal, queues, sub, queue, posted]
  exact h

/-- UNSUBSCRIBE from a subscriber: its subscription and its latch are gone, and the GAP that this frees is stored. -/
theorem unsubscribe_removed {s : State} {p : Port} {payload : List Byte} {clk : Clock}
    (h : s.handedRequest p .unsubscribe = some (payload, clk)) (known : (s.sub p).isSome) :
    let t := takeRequest .unsubscribe .journal p (unsubscribeRequest p) s
    s.Answered t p okEmpty ∧
      t = { s with journal := t.journal, queues := t.queues, clocks := t.clocks, posts := t.posts, ports := t.ports } ∧
      t.sub p = none ∧ (t.queue p).latch = false ∧ (t.queue p).notices = (s.queue p).notices ∧
      (s.journal.lostCount = 0 ∨ s.journal.ring.length = 512 → ((s.setSub p none).clearLatch p).GapSettled t) := by
  obtain ⟨answered, left⟩ := request_taken h (unsubscribeRequest_some (s := s.hear .journal clk) payload known) (by simp)
  obtain ⟨u, hu⟩ : ∃ u, ((s.hear .journal clk).setSub p none).clearLatch p = u := ⟨_, rfl⟩
  have gone : u.sub p = none := hu ▸ State.sub_setSub_self ..
  have reads : u.readsGap p = false := by
    rw [readsGap_eq, State.reads, gone]
    simp
  have cleared : u.queue p = { s.queue p with latch := false } := hu ▸ State.queue_setQueue_self ..
  have queue : (storeGap u).queue p = { s.queue p with latch := false } := by
    rw [storeGap_queue, cleared, reads]
    simp
  rw [hu] at left
  refine ⟨answered, ?_, ?_, ?_, ?_, fun h => ?_⟩
  · rw [left, storeGap_eq, ← hu]
    rfl
  · rw [left]
    exact storeGap_sub_of_none gone
  · rw [left]
    exact congrArg NoticeQueue.latch queue
  · rw [left]
    change ((storeGap u).queue p).notices = _
    rw [queue]
  · have settled := storeGap_settled (s := u) (gapDue_or_full (hu ▸ h))
    rw [← hu] at settled left
    exact State.GapSettled.congr (clks := (s.hear .journal clk).clocks) settled (by rw [left]) (by rw [left]) (by rw [left])

/-- Settles O33: a subscription is made, refused or removed, and the GAP due after a removal is stored. -/
theorem subscriptionsComeAndGo : Obligations.SubscriptionsComeAndGo := by
  refine ⟨fun p s payload clk => ⟨fun h => ⟨fun none => ⟨_, rfl, request_refused h (by simp [subscribeRequest, none])⟩,
      fun mask mode oldest args => ⟨fun known => ⟨_, rfl, ?again⟩, fun fresh => ⟨_, rfl, ?new⟩⟩⟩,
    fun h => ⟨fun none => ⟨_, rfl, ?unknown⟩, fun known => ⟨_, rfl, unsubscribe_removed h known⟩⟩⟩,
    fun s p clk handed => ⟨_, rfl, ?teardown⟩⟩
  case again => exact request_refused h (subscribeRequest_again (s := s.hear .journal clk) args known)
  case new =>
    obtain ⟨answered, left⟩ := request_taken h (subscribeRequest_new (s := s.hear .journal clk) args fresh) rfl
    refine ⟨by rw [left]; rfl, ?_, fun q hq => ?_, by rw [left]; rfl, _, flag_bytes _ ▸ answered,
      fun ok => more_of_new ok mask mode oldest⟩
    · rw [left]
      exact State.sub_setSub_self ..
    · rw [left]
      exact (State.sub_setSub ..).trans (if_neg (Ne.symm hq))
  case unknown => exact request_refused h (unsubscribeRequest_none (s := s.hear .journal clk) payload none)
  case teardown =>
    rcases hs : s.sub p with _ | sub
    · rw [journalTeardownEvent_of_none handed hs]
      exact ⟨rfl, hs, ⟨_, State.port_setPort_self ..⟩, fun q hq => State.port_setPort_ne _ _ _ _ (Ne.symm hq),
        fun _ => ⟨rfl, rfl, .nil rfl⟩, nofun⟩
    · rw [journalTeardownEvent_of_some handed (by simp [hs])]
      have settled := fun h => storeGap_settled (s := (s.hear .journal clk).setSub p none) (gapDue_or_full h)
      have gone : (storeGap ((s.hear .journal clk).setSub p none)).sub p = none := storeGap_sub_of_none (State.sub_setSub_self ..)
      have port : ∀ q, (storeGap ((s.hear .journal clk).setSub p none)).port q = s.port q := fun q => by simp [State.port]
      refine ⟨?_, gone, ⟨_, (State.port_setPort_self ..).trans (by rw [port])⟩,
        fun q hq => (State.port_setPort_ne _ _ _ _ (Ne.symm hq)).trans (port q), nofun,
        fun _ h => State.GapSettled.congr (clks := (s.hear .journal clk).clocks) (settled h) rfl rfl rfl⟩
      rw [storeGap_eq]
      rfl

end Sys2Proof.Machine
end

section
/-! PROOFS. READ and the bytes of a journal entry. -/

namespace Sys2Proof.Machine

/-! ### The entries that READ examines (R125) -/

theorem examine_zero (mask : KindMask) (l : List JournalEntry) : examine mask 0 l = ([], 0) := by cases l <;> rfl

theorem examine_cons (mask : KindMask) (n : Nat) (e : JournalEntry) (l : List JournalEntry) : examine mask (n + 1) (e :: l) =
    if e.hits mask then (e :: (examine mask n l).1, (examine mask n l).2 + 1)
    else ((examine mask (n + 1) l).1, (examine mask (n + 1) l).2 + 1) := rfl

theorem examine_found (mask : KindMask) (n : Nat) (l : List JournalEntry) :
    (examine mask n l).1 = (l.filter fun e => e.hits mask).take n ∧
      (l.take (examine mask n l).2).filter (fun e => e.hits mask) = (examine mask n l).1 := by
  induction l generalizing n with
  | nil => cases n <;> simp [examine]
  | cons e l ih =>
    cases n with
    | zero => simp [examine_zero]
    | succ n =>
      rw [examine_cons]
      by_cases hit : e.hits mask = true
      · rw [if_pos hit]
        obtain ⟨found, taken⟩ := ih n
        simp [hit, found, taken]
      · rw [if_neg hit]
        obtain ⟨found, taken⟩ := ih (n + 1)
        simp [hit, found, taken]

/-- With fewer than `n` entries found, every entry has been examined. -/
theorem examine_all {mask : KindMask} {n : Nat} {l : List JournalEntry} (h : (examine mask n l).1.length < n) :
    (examine mask n l).2 = l.length := by
  induction l generalizing n with
  | nil => cases n <;> rfl
  | cons e l ih =>
    cases n with
    | zero => exact absurd h (Nat.not_lt_zero _)
    | succ n =>
      rw [examine_cons] at h ⊢
      split at h
      · next hit =>
        rw [if_pos hit]
        exact congrArg (· + 1) (ih (Nat.lt_of_succ_lt_succ h))
      · next miss =>
        rw [if_neg miss]
        exact congrArg (· + 1) (ih h)

/-- With `n` entries found, the last one examined is the `n`-th. -/
theorem examine_last {mask : KindMask} {n : Nat} {l : List JournalEntry} (hn : 1 ≤ n) (h : (examine mask n l).1.length = n) :
    1 ≤ (examine mask n l).2 ∧ ∃ e, l[(examine mask n l).2 - 1]? = some e ∧ e.hits mask = true := by
  induction l generalizing n with
  | nil => cases n <;> simp_all [examine]
  | cons e l ih =>
    obtain ⟨n, rfl⟩ : ∃ m, n = m + 1 := ⟨n - 1, by omega⟩
    rw [examine_cons] at h ⊢
    split at h
    · next hit =>
      rw [if_pos hit]
      refine ⟨Nat.le_add_left .., ?_⟩
      rcases Nat.eq_zero_or_pos n with rfl | hn
      · exact ⟨e, by simp [examine_zero], hit⟩
      · obtain ⟨pos, last⟩ := ih hn (by simpa using h)
        obtain ⟨k, hk⟩ := Nat.exists_eq_add_of_lt pos
        rw [hk] at last ⊢
        simpa using last
    · next miss =>
      rw [if_neg miss]
      obtain ⟨pos, last⟩ := ih hn h
      obtain ⟨k, hk⟩ := Nat.exists_eq_add_of_lt pos
      refine ⟨Nat.le_add_left .., ?_⟩
      rw [hk] at last ⊢
      simpa using last

/-! ### What is left to read (R126) -/

/-- The entries at or after a cursor that has moved past `k` of them. -/
theorem fromCursor_add {j : Journal} (sound : j.Sound) {cursor : SeqNum} (inside : j.position cursor ≤ j.ring.length) {k : Nat}
    (hk : k ≤ (j.fromCursor cursor).length) : j.fromCursor (cursor + BitVec.ofNat 32 k) = (j.fromCursor cursor).drop k := by
  rw [Journal.fromCursor, List.length_drop] at hk
  rw [Journal.fromCursor, position_add sound (by omega), Journal.fromCursor, List.drop_drop]

/-- Storing the GAP over a full ring puts it after the entries that a cursor behind the tail has still to read. -/
theorem fromCursor_withGap {j : Journal} (sound : j.Sound) (full : j.ring.length = 512) {cursor : SeqNum} (behind : cursor ≠ j.tailSeq)
    (inside : j.position cursor ≤ j.ring.length) (wall : Nat) : (j.withGap wall).fromCursor cursor =
      j.fromCursor cursor ++ [⟨j.seqCounter, .gap j.lostCount j.lostMask wall⟩] := by
  have some : j.ring ≠ [] := fun none => by simp [none] at full
  have room : ({ j with lostCount := 0, lostMask := 0 } : Journal).makeRoom =
      ({ j with lostCount := 0, lostMask := 0 } : Journal).dropTail := if_pos (by simp [Config.journalCapacity, full])
  have tail : (j.withGap wall).tailSeq = j.tailSeq + 1 := by
    rw [Journal.withGap, Journal.tailSeq_push, room]
    exact sound.clearLoss.tailSeq_dropTail some
  have ring : (j.withGap wall).ring = j.ring.tail ++ [⟨j.seqCounter, .gap j.lostCount j.lostMask wall⟩] := by
    rw [Journal.withGap, room]
    rfl
  have position : (j.withGap wall).position cursor + 1 = j.position cursor := by
    rw [Journal.position, tail]
    exact position_succ behind
  rw [Journal.fromCursor, Journal.fromCursor, ring, ← position, List.drop_append_of_le_length (by simp; omega), List.drop_tail,
    Nat.add_comm]

/-- Who is subscribed does not matter to the entries. -/
theorem fromCursor_withGap_subs (j : Journal) (subs : Vector (Option Subscription) 4) (wall : Nat) (cursor : SeqNum) :
    (({ j with subs := subs } : Journal).withGap wall).fromCursor cursor = (j.withGap wall).fromCursor cursor := by
  have ring : (({ j with subs := subs } : Journal).withGap wall).ring = (j.withGap wall).ring := by
    unfold Journal.withGap Journal.makeRoom Journal.push
    dsimp only
    split <;> rfl
  have tail : (({ j with subs := subs } : Journal).withGap wall).tailSeq = (j.withGap wall).tailSeq := by
    unfold Journal.withGap
    rw [Journal.tailSeq_push, Journal.tailSeq_push]
    unfold Journal.makeRoom
    dsimp only
    split <;> rfl
  rw [Journal.fromCursor, Journal.position, ring, tail]
  rfl

theorem settleRead_some {s : State} {p : Port} {sub : Subscription} (h : s.sub p = some sub) (entries : List JournalEntry) :
    settleRead p entries s =
      (if s.journal.more sub then s.setSub p (some { sub with overtaken := false })
        else (s.setSub p (some { sub with overtaken := false })).clearLatch p,
        okWith (readPayload (s.journal.more sub) sub.overtaken entries)) := by
  simp only [settleRead, h]

/-- READ's last steps: the answer, OVERTAKEN cleared, and the latch cleared when nothing is left to read. -/
theorem settleRead_spec {s : State} {p : Port} {sub : Subscription} (h : s.sub p = some sub) (entries : List JournalEntry) :
    let t := (settleRead p entries s).1
    (settleRead p entries s).2 = okWith (readPayload (s.journal.more sub) sub.overtaken entries) ∧
      t = { s with journal := t.journal, queues := t.queues } ∧ t.journal = { s.journal with subs := t.journal.subs } ∧
      t.sub p = some { sub with overtaken := false } ∧ (∀ q, q ≠ p → t.sub q = s.sub q) ∧
      ∀ q, t.queue q = if q = p ∧ s.journal.more sub = false then { s.queue q with latch := false } else s.queue q := by
  have others : ∀ q, q ≠ p → (s.setSub p (some { sub with overtaken := false })).sub q = s.sub q := fun q hq =>
    (State.sub_setSub ..).trans (if_neg (Ne.symm hq))
  rw [settleRead_some h]
  cases more : s.journal.more sub with
  | true => exact ⟨rfl, rfl, rfl, State.sub_setSub_self .., others, fun q => (if_neg (by simp)).symm⟩
  | false =>
    refine ⟨rfl, rfl, rfl, State.sub_setSub_self .., others, fun q => ?_⟩
    by_cases hq : q = p
    · subst hq
      exact (State.queue_setQueue_self ..).trans (if_pos ⟨rfl, rfl⟩).symm
    · exact (State.queue_setQueue_ne _ _ _ _ (Ne.symm hq)).trans (if_neg fun h => hq h.1).symm

/-- The subscription with its cursor moved past the entries that READ examines. -/
def State.readMoved (s : State) (p : Port) (sub : Subscription) (n : Nat) : State :=
  s.setSub p (some { sub with cursor := sub.cursor + BitVec.ofNat 32 (examine sub.mask n (s.journal.fromCursor sub.cursor)).2 })

theorem readRequest_some {s : State} {p : Port} {payload : List Byte} {n : Nat} {sub : Subscription} (arg : readArg payload = some n)
    (h : s.sub p = some sub) : readRequest p payload s =
      settleRead p (examine sub.mask n (s.journal.fromCursor sub.cursor)).1 (storeGap (s.readMoved p sub n)) := by
  simp only [readRequest, arg, h]
  rfl

theorem readArg_pos {payload : List Byte} {n : Nat} (h : readArg payload = some n) : 1 ≤ n ∧ n ≤ 3 := by
  unfold readArg at h
  dsimp only at h
  split at h
  · next range => cases h; exact range
  · cases h

/-- A cursor that has moved past an entry is not at the tail. -/
theorem moved_ne_tail {j : Journal} (ok : j.Sound) {cursor : SeqNum} (inside : j.position cursor ≤ j.ring.length) {k : Nat}
    (hk : k ≤ (j.fromCursor cursor).length) (pos : 1 ≤ j.position cursor + k) : cursor + BitVec.ofNat 32 k ≠ j.tailSeq := by
  intro e
  rw [Journal.fromCursor, List.length_drop] at hk
  have place := position_add ok (c := cursor) (k := k) (by omega)
  rw [e, Journal.Sound.position_tail] at place
  omega

theorem flag_readPayload (more overtaken : Bool) (entries : List JournalEntry) : readPayload more overtaken entries =
    [(if more then 1 else 0) + (if overtaken then 2 else 0)] ++ bytesOf 1 entries.length ++ entries.flatMap JournalEntry.bytes := by
  cases more <;> cases overtaken <;> rfl

section
variable {s : State} {p : Port} {sub : Subscription} {n : Nat}

theorem readMoved_behind (h : s.sub p = some sub) (ok : s.journal.Ok) (hn : 1 ≤ n) (due : (s.readMoved p sub n).gapDue = true) :
    s.journal.ring.length = 512 ∧
      sub.cursor + BitVec.ofNat 32 (examine sub.mask n (s.journal.fromCursor sub.cursor)).2 ≠ s.journal.tailSeq := by
  have sound := (Journal.ok_iff.1 ok).1
  have inside := sound.cursors p sub h
  have full : s.journal.ring.length = 512 := sound.full (gapDue_iff.1 due).1
  refine ⟨full, moved_ne_tail sound inside (examine_le ..) ?_⟩
  by_contra none
  have all : (examine sub.mask n (s.journal.fromCursor sub.cursor)).2 = (s.journal.fromCursor sub.cursor).length :=
    examine_all (by
      rw [(examine_found ..).1]
      refine (List.length_take_le ..).lt_of_ne fun e => ?_
      have := (examine_last hn (by rw [(examine_found ..).1]; exact e)).1
      omega)
  rw [Journal.fromCursor, List.length_drop] at all
  rw [Journal.fromCursor] at none
  omega

/-- READ's own cursor is not moved again by a GAP that is then stored. -/
theorem sub_storeGap_readMoved (h : s.sub p = some sub) (ok : s.journal.Ok) (hn : 1 ≤ n) :
    (storeGap (s.readMoved p sub n)).sub p =
      some { sub with cursor := sub.cursor + BitVec.ofNat 32 (examine sub.mask n (s.journal.fromCursor sub.cursor)).2 } := by
  have moved : (s.readMoved p sub n).sub p = _ := State.sub_setSub_self ..
  cases due : (s.readMoved p sub n).gapDue with
  | false => rw [storeGap_of_not_due due, moved]
  | true => exact storeGap_sub_of_behind moved (readMoved_behind h ok hn due).2

/-- MORE: a matching entry is left after those examined, or the GAP that is due matches. -/
theorem more_storeGap_readMoved (h : s.sub p = some sub) (ok : s.journal.Ok) (hn : 1 ≤ n) :
    let k := (examine sub.mask n (s.journal.fromCursor sub.cursor)).2
    (storeGap (s.readMoved p sub n)).journal.more { sub with cursor := sub.cursor + BitVec.ofNat 32 k } = true ↔
      (∃ e ∈ (s.journal.fromCursor sub.cursor).drop k, e.hits sub.mask = true) ∨
        ((s.readMoved p sub n).gapDue = true ∧ s.journal.lostMask &&& sub.mask ≠ 0) := by
  dsimp only
  have sound := (Journal.ok_iff.1 ok).1
  have inside := sound.cursors p sub h
  have examined := examine_le sub.mask n (s.journal.fromCursor sub.cursor)
  have ahead := fromCursor_add sound inside examined
  cases due : (s.readMoved p sub n).gapDue with
  | false =>
    rw [storeGap_of_not_due due, Journal.more]
    change (List.any (s.journal.fromCursor _) _ = true) ↔ _
    rw [ahead]
    simp
  | true =>
    obtain ⟨full, behind⟩ := readMoved_behind h ok hn due
    have place : s.journal.position (sub.cursor + BitVec.ofNat 32 (examine sub.mask n (s.journal.fromCursor sub.cursor)).2) ≤
        s.journal.ring.length := by
      rw [Journal.fromCursor, List.length_drop] at examined
      rw [position_add sound] <;> rw [Journal.fromCursor] <;> omega
    have left := fromCursor_withGap sound full behind place s.wallLow
    have same : ∀ c, ((s.readMoved p sub n).journal.withGap s.wallLow).fromCursor c = (s.journal.withGap s.wallLow).fromCursor c :=
      fun c => fromCursor_withGap_subs _ _ _ c
    rw [storeGap_journal_of_due due, Journal.more]
    change (List.any (((s.readMoved p sub n).journal.withGap s.wallLow).fromCursor _) _ = true) ↔ _
    rw [same, left, ahead]
    simp [JournalEntry.hits, EntryBody.kinds]

end

/-- Settles O34: the entries examined, the cursor moved, the GAP that this frees, and the flags; an entry's bytes are read one by one. -/
theorem readsAndGapsKeepTheOrder : Obligations.ReadsAndGapsKeepTheOrder := by
  refine ⟨fun p s payload clk h => ⟨fun none => ⟨_, rfl, request_refused h (by simp [readRequest, none])⟩,
      fun n arg => ⟨fun fresh => ⟨_, rfl, request_refused h (by simp [readRequest, arg, fresh])⟩, fun sub hs ok => ?read⟩⟩,
    fun s h => ⟨storeGap_settled h, storeGap_eq s⟩, ?bytes⟩
  case bytes =>
    rintro ⟨number, ⟨i, rising, mach, wall, held⟩ | ⟨owner, tag, mach, wall⟩ | ⟨g, i, mach, wall, held⟩ | ⟨lost, kinds, wall⟩⟩
    all_goals
      have seq : number.toNat < 2 ^ 32 := number.isLt
      simp only [JournalEntry.bytes, List.append_assoc]
      simp
    · exact ⟨seq, by omega, by cases held <;> cases rising <;> rfl⟩
    · exact ⟨seq, by omega⟩
    · exact ⟨seq, by omega, by omega, by cases held <;> decide⟩
    · exact ⟨seq, by have := kinds.isLt; omega⟩
  case read =>
    dsimp only
    have hn := (readArg_pos arg).1
    have full : s.journal.lostCount = 0 ∨ s.journal.ring.length = 512 :=
      or_iff_not_imp_left.2 fun lost => (Journal.ok_iff.1 ok).1.full lost
    have found := examine_found sub.mask n (s.journal.fromCursor sub.cursor)
    have all := examine_all (mask := sub.mask) (n := n) (l := s.journal.fromCursor sub.cursor)
    have last := examine_last (mask := sub.mask) (l := s.journal.fromCursor sub.cursor) hn
    have examined := examine_le sub.mask n (s.journal.fromCursor sub.cursor)
    have mine := sub_storeGap_readMoved (s := s.hear .journal clk) hs ok hn
    have more := more_storeGap_readMoved (s := s.hear .journal clk) hs ok hn
    have does := readRequest_some (s := s.hear .journal clk) arg hs
    have frame := storeGap_eq ((s.hear .journal clk).readMoved p sub n)
    have settled : (s.setSub p (some { sub with
        cursor := sub.cursor + BitVec.ofNat 32 (examine sub.mask n (s.journal.fromCursor sub.cursor)).2 })).GapSettled
          (storeGap ((s.hear .journal clk).readMoved p sub n)) :=
      State.GapSettled.congr (clks := (s.hear .journal clk).clocks)
        (storeGap_settled (s := (s.hear .journal clk).readMoved p sub n) (gapDue_or_full full)) rfl rfl rfl
    have due : ((s.hear .journal clk).readMoved p sub n).gapDue = (s.setSub p (some { sub with
        cursor := sub.cursor + BitVec.ofNat 32 (examine sub.mask n (s.journal.fromCursor sub.cursor)).2 })).gapDue := rfl
    rw [due] at more
    simp only [State.hear_journal] at mine more does
    generalize examine sub.mask n (s.journal.fromCursor sub.cursor) = x at *
    obtain ⟨entries, k⟩ := x
    generalize hu : storeGap ((s.hear .journal clk).readMoved p sub n) = u at *
    obtain ⟨answer, kept, journal, sub', others, queues⟩ := settleRead_spec mine entries
    generalize settleRead p entries u = r at *
    obtain ⟨answered, left⟩ := request_taken h (does.trans rfl) (by rw [kept, frame]; rfl)
    obtain ⟨found, taken⟩ := found
    dsimp only at found
    subst found
    refine ⟨_, k, u.journal.more { sub with cursor := sub.cursor + BitVec.ofNat 32 k }, rfl, ?_, examined, taken, fun few => all few,
      fun n_th => last n_th, ?_, ?_, more, u, settled, ?_, fun q hq => ?_, ?_, fun q => ?_⟩
    · rw [left, kept, frame]
      rfl
    · rw [← flag_readPayload]
      exact answer ▸ answered
    · rw [left]
      exact sub'
    · rw [left]
      exact journal
    · rw [left]
      exact others q hq
    · rw [left, kept]
    · rw [left]
      exact queues q

end Sys2Proof.Machine
end

section
/-! PROOFS. Transactions and frames: the status byte, the bytes of a frame, and what becomes of a frame judged. -/

namespace Sys2Proof.Machine

/-! ### The status byte (R154, R185) -/

/-- The bits of a number made of seven flags and a two-bit field. -/
theorem statusBits : ∀ replies attn hi lo full crc discard reset : Bool,
    let x : Byte := BitVec.ofNat 8 (bit replies 7 + bit attn 6 + 16 * (2 * hi.toNat + lo.toNat) + bit full 3 + bit crc 2
      + bit discard 1 + bit reset 0)
    x.getLsbD 7 = replies ∧ x.getLsbD 6 = attn ∧ x.getLsbD 5 = hi ∧ x.getLsbD 4 = lo ∧ x.getLsbD 3 = full ∧ x.getLsbD 2 = crc ∧
      x.getLsbD 1 = discard ∧ x.getLsbD 0 = reset := by decide

theorem sessionBits_eq (x : PortRec) : x.sessionBits =
    2 * (x.session == .closing || (x.session == .idle && x.lapsed)).toNat +
      (x.session == .opened || (x.session == .idle && x.lapsed)).toNat := by
  cases hs : x.session <;> cases hl : x.lapsed <;> simp only [PortRec.sessionBits, hs, hl] <;> rfl

theorem transactionStartEvent_fixes {s : State} {p : Port} (high : (s.port p).csLow = false) (runs : s.inReset = false) :
    transactionStartEvent p s = s.setPort p { s.port p with
      csLow := true, txn := some { status := s.statusByte p, head := (s.port p).replies.head? } } := by
  simp [transactionStartEvent, high, runs]

theorem outByte_succ (x : Transaction) (k : Nat) : x.outByte (k + 1) = ((x.head.map Reply.bytes).getD []).getD k 0 := by
  cases h : x.head <;> simp [Transaction.outByte, h]

/-- Settles O38: the byte's flags stand at their places, and a transaction fixes the byte and sends it first. -/
theorem statusByteShowsTheFlags : Obligations.StatusByteShowsTheFlags := by
  intro s p
  have bits := statusBits (!(s.port p).replies.isEmpty) (s.attn p)
    ((s.port p).session == .closing || ((s.port p).session == .idle && (s.port p).lapsed))
    ((s.port p).session == .opened || ((s.port p).session == .idle && (s.port p).lapsed))
    ((s.port p).requests.length == 4) (s.port p).crcErr (s.port p).discard (s.port p).resetFlag
  rw [← sessionBits_eq] at bits
  obtain ⟨b7, b6, b5, b4, b3, b2, b1, b0⟩ := bits
  refine ⟨b7, b6, b5, b4, b3, b2, b1, b0,
    fun high runs => ⟨_, { status := s.statusByte p, head := (s.port p).replies.head? }, rfl, ?_, rfl, rfl⟩,
    fun runs => ⟨?_, fun c => ?_⟩, fun k => ?_,
    fun x runs low txn => ⟨?_, fun k => ?_⟩⟩
  · rw [transactionStartEvent_fixes high runs, State.port_setPort_self]
  · simp [State.attnPin, State.attn, runs]
  · simp [State.outPin, runs]
  · cases runs : s.inReset <;> cases low : (s.port p).csLow <;> simp [State.misoByte, runs, low]
  · simp [State.misoByte, runs, low, txn, Transaction.outByte]
  · rw [← outByte_succ]
    simp [State.misoByte, runs, low, txn]

/-! ### The bytes of a frame (R152, R184) -/

theorem Frame.length_byte {f : Frame} (h : f.payload.length ≤ 28) : (BitVec.ofNat 8 f.payload.length).toNat = f.payload.length := by
  rw [BitVec.toNat_ofNat]
  omega

/-- A frame's head and one more byte scan as the frame, right when that byte is its CRC-8. -/
theorem scanFrame_head {f : Frame} (kind : f.kind ≠ 0) (short : f.payload.length ≤ 28) (check : Byte) (more : List Byte) :
    scanFrame (f.head ++ check :: more) = .whole f (crc8 f.head == check) := by
  have length := Frame.length_byte short
  have fits : ¬ Config.maxPayload < f.payload.length := by simp only [Config.maxPayload]; omega
  rw [Frame.head, List.cons_append, List.cons_append, List.cons_append, scanFrame, if_neg kind]
  simp [length, fits]

/-- The CRC-8 over bytes and then their CRC-8 is 0. -/
theorem crc8_append_crc8 (bytes : List Byte) : crc8 (bytes ++ [crc8 bytes]) = 0 := by
  rw [crc8, List.foldl_append]
  change crcByte (crc8 bytes) (crc8 bytes) = 0
  rw [crcByte, BitVec.xor_self]
  decide

/-- Settles O40: the scan reads the head's fields back and compares the check byte with the head's CRC-8. -/
theorem frameBytesScanBack : Obligations.FrameBytesScanBack := by
  refine ⟨fun f more kind short => ⟨?_, crc8_append_crc8 f.head, ?_⟩, fun f check more kind short wrong => ?_⟩
  · rw [Frame.bytes, List.append_assoc]
    exact (scanFrame_head kind short _ more).trans (by rw [beq_self_eq_true])
  · simp [Frame.bytes, Frame.head]
    omega
  · rw [scanFrame_head kind short, beq_eq_false_iff_ne.2 (Ne.symm wrong)]

/-! ### Frames judged (R152, R153) -/

theorem PortRec.judge_eq (x : PortRec) (f : Frame) (right : Bool) : x.judge f right =
    if right = true ∧ x.requests.length < 4 ∧ x.session ≠ .closing then
      { x with requests := x.requests ++ [f], discard := false, crcErr := false }
    else { x with discard := true, crcErr := x.crcErr || !right } := by
  have accepts : x.accepts right = true ↔ right = true ∧ x.requests.length < 4 ∧ x.session ≠ .closing := by
    simp only [PortRec.accepts, Bool.and_eq_true, bne_iff_ne, decide_eq_true_eq, and_assoc]
    exact Iff.rfl
  simp only [PortRec.judge, accepts]

theorem frameJudgeEvent_of_open {s : State} {p : Port} {x : Transaction} (txn : (s.port p).txn = some x) (open_ : x.judged = false)
    (bytes : List Byte) : frameJudgeEvent p bytes s = match scanFrame bytes with
      | .null => s
      | .short => s
      | .tooLong => s.setPort p (s.port p).discarded.markJudged
      | .whole f right => s.setPort p ((s.port p).judge f right).markJudged := by
  obtain ⟨status, head, flushed, judged⟩ := x
  obtain rfl : judged = false := open_
  cases scan : scanFrame bytes <;> simp only [frameJudgeEvent, txn, scan]

/-- Settles O41: a whole frame is accepted or discarded, and a frame too long is discarded. -/
theorem judgedFrameIsAcceptedOrDiscarded : Obligations.JudgedFrameIsAcceptedOrDiscarded := by
  intro s p bytes x txn open_
  have event := frameJudgeEvent_of_open txn open_ bytes
  refine ⟨fun f right scan => ⟨_, rfl, ?_⟩, fun scan => ?_, fun scan => ?_⟩
  · rw [scan] at event
    rw [event]
    refine ⟨rfl, fun q hq => State.port_setPort_ne _ _ _ _ (Ne.symm hq), ?_⟩
    rw [State.port_setPort_self, PortRec.judge_eq]
    split <;> simp [PortRec.markJudged, txn]
  · rw [scan] at event
    exact congrArg Host.Outcome.next (event.trans (by simp [PortRec.markJudged, PortRec.discarded, txn]))
  · rw [scan] at event
    exact congrArg Host.Outcome.next event

/-! ### The end of a transaction (R151, R152) -/

theorem Transaction.sentHead_iff {x : Transaction} {n : Nat} :
    x.sentHead n = true ↔ ∃ r, x.head = some r ∧ x.headFlushed = false ∧ r.bytes.length + 1 ≤ n := by
  cases h : x.head <;> simp [Transaction.sentHead, h]

theorem PortRec.judge_replies (x : PortRec) (f : Frame) (right : Bool) : (x.judge f right).replies = x.replies := by
  rw [PortRec.judge_eq]
  split <;> rfl

/-- What the end of a transaction does with its frame. -/
theorem PortRec.judgeAtEnd_eq (x : PortRec) (t : Transaction) (bytes : List Byte) : x.judgeAtEnd t bytes =
    if t.judged then x
    else match scanFrame bytes with
      | .null => x
      | .short => { x with discard := true }
      | .tooLong => { x with discard := true }
      | .whole f right =>
        if right = true ∧ x.requests.length < 4 ∧ x.session ≠ .closing then
          { x with requests := x.requests ++ [f], discard := false, crcErr := false }
        else { x with discard := true, crcErr := x.crcErr || !right } := by
  unfold PortRec.judgeAtEnd
  split
  · rfl
  · cases scanFrame bytes
    case whole f right => exact PortRec.judge_eq x f right
    all_goals rfl

theorem PortRec.judgeAtEnd_replies (x : PortRec) (t : Transaction) (bytes : List Byte) :
    (x.judgeAtEnd t bytes).replies = x.replies := by
  unfold PortRec.judgeAtEnd
  split
  · rfl
  · cases scanFrame bytes
    case whole f right => exact PortRec.judge_replies x f right
    all_goals rfl

/-- Settles O39: the start fixes byte and reply, and the end judges the frame left and removes the reply sent. -/
theorem transactionCarriesOneReply : Obligations.TransactionCarriesOneReply := by
  refine fun s p => ⟨fun high runs => congrArg Host.Outcome.next (transactionStartEvent_fixes high runs), fun high reset => ?_,
    fun low => ?_, fun bytes x low txn => ?_, fun bytes low none => ?_, fun bytes high => ?_⟩
  · exact congrArg Host.Outcome.next (by simp [transactionStartEvent, high, reset])
  · exact congrArg Host.Outcome.next (by simp [transactionStartEvent, low])
  · have event : transactionEndEvent p bytes s = s.setPort p { (s.port p).judgeAtEnd x bytes with
        csLow := false, txn := none
        replies := if x.sentHead bytes.length then ((s.port p).judgeAtEnd x bytes).replies.tail
          else ((s.port p).judgeAtEnd x bytes).replies } := by
      simp only [transactionEndEvent, low, txn]
      rfl
    simp only [PortRec.judgeAtEnd_replies, Transaction.sentHead_iff] at event
    rw [PortRec.judgeAtEnd_eq] at event
    exact congrArg Host.Outcome.next event
  · exact congrArg Host.Outcome.next (by simp [transactionEndEvent, low, none])
  · exact congrArg Host.Outcome.next (by simp [transactionEndEvent, high])

end Sys2Proof.Machine
end

section
/-! PROOFS. The request engine, the session, and the teardown of a port. -/

namespace Sys2Proof.Machine

/-! ### The table of requests (R158, R186, R187) -/

theorem kindOf_eq_some {b : Byte} {k : ReqKind} : kindOf b = some k ↔ b = k.byte := by
  refine ⟨fun h => ?_, fun h => ?_⟩
  · unfold kindOf at h
    have named := List.find?_some h
    exact (beq_iff_eq.1 named).symm
  · rw [h]
    cases k <;> decide

theorem submitLength_eq (x : List Byte) : submitLength x = 8 + submitBodyLength (fieldOf x 0 1) +
    (if (fieldOf x 1 1).testBit 2 then 6 else 0) + (if (fieldOf x 1 1).testBit 3 then 2 else 0) := rfl

theorem lengthOk_submit {x : List Byte} : lengthOk .submit x = true ↔ x.length = submitLength x := by
  have long : 8 ≤ submitLength x := by
    rw [submitLength_eq]
    omega
  simp only [lengthOk, Bool.and_eq_true, decide_eq_true_eq, beq_iff_eq]
  exact ⟨fun h => h.2, fun h => ⟨by omega, h⟩⟩

/-! ### The request engine (R157 to R159, R162) -/

theorem PortRec.renewed_eq (x : PortRec) (wall : Nat) :
    x.renewed wall = { x with lastActivity := if x.session = .opened then wall else x.lastActivity } := by
  unfold PortRec.renewed
  split <;> rfl

theorem needsNoSession_eq_false {k : ReqKind} : k.needsNoSession = false ↔ k ≠ .attach ∧ k ≠ .ident ∧ k ≠ .time := by
  cases k <;> decide

section
variable {s : State} {p : Port} {f : Frame} {later : List Frame}

theorem engineTakeEvent_of_ready (queued : (s.port p).requests = f :: later) (ready : (s.port p).engineReady = true) :
    engineTakeEvent p s = s.setPort p (match (s.port p).commonRefusal f with
      | some code =>
        let y := ({ s.port p with requests := later } : PortRec).renewed s.tb.wallTime
        { y with replies := y.replies ++ [f.reply (refuse code)] }
      | none => { ({ s.port p with requests := later } : PortRec).renewed s.tb.wallTime with
          inHand := some ⟨f, .handed (s.clock (.port p))⟩ }) := by
  cases refusal : (s.port p).commonRefusal f <;> simp only [engineTakeEvent, queued, ready, refusal, if_true]

theorem commonRefusal_unknown {x : PortRec} (unknown : kindOf f.kind = none) : x.commonRefusal f = some .badKind := by
  simp only [PortRec.commonRefusal, unknown]

theorem commonRefusal_known {x : PortRec} {k : ReqKind} (known : kindOf f.kind = some k) : x.commonRefusal f =
    if x.session = .idle ∧ k ≠ .attach ∧ k ≠ .ident ∧ k ≠ .time then some .noSession
    else if lengthOk k f.payload = false then some .badLength else none := by
  simp only [PortRec.commonRefusal, known, needsNoSession_eq_false]
  cases lengthOk k f.payload <;> rfl

end

/-- Settles O42: the head frame is taken and checked; the codes and lengths are those of the table. -/
theorem engineTakesHeadFrame : Obligations.EngineTakesHeadFrame := by
  refine ⟨fun s p f later queued free room open_ => ⟨_, rfl, ?_⟩, fun b k => ?_, fun k x => ?_⟩
  · have ready : (s.port p).engineReady = true := by
      simp only [PortRec.engineReady, free, Bool.and_eq_true, decide_eq_true_eq, bne_iff_ne]
      exact ⟨⟨rfl, room⟩, open_⟩
    rw [engineTakeEvent_of_ready queued ready]
    refine ⟨rfl, fun q hq => State.port_setPort_ne _ _ _ _ (Ne.symm hq), ?_⟩
    rw [State.port_setPort_self]
    simp only [PortRec.renewed_eq]
    cases known : kindOf f.kind with
    | none =>
      rw [commonRefusal_unknown known]
      rfl
    | some k =>
      rw [commonRefusal_known known]
      dsimp only
      by_cases idle : (s.port p).session = .idle ∧ k ≠ .attach ∧ k ≠ .ident ∧ k ≠ .time
      · rw [if_pos idle, if_pos idle]
        rfl
      rw [if_neg idle, if_neg idle]
      by_cases wrong : lengthOk k f.payload = false
      · rw [if_pos wrong, if_pos wrong]
        rfl
      rw [if_neg wrong, if_neg wrong]
  · rw [kindOf_eq_some]
    cases k <;> rfl
  · cases k
    case submit => exact lengthOk_submit
    all_goals exact beq_iff_eq

/-- Settles O43: the engine hears of the answer and places it, and a lapsed port hands its parts. -/
theorem answerIsPlaced : Obligations.AnswerIsPlaced := by
  refine fun s p f a clk inHand => ⟨_, rfl, ?_⟩
  have event : answerTakenEvent p s = (s.hear (.port p) clk).setPort p
      (if (s.port p).session = .closing ∧ (s.port p).cause = some .lapsed then
        ({ s.port p with replies := (s.port p).replies ++ [f.reply a], inHand := none } : PortRec).handParts
          ((s.hear (.port p) clk).clock (.port p))
        else { s.port p with replies := (s.port p).replies ++ [f.reply a], inHand := none }) := by
    simp only [answerTakenEvent, inHand]
    rfl
  rw [event]
  refine ⟨rfl, fun q hq => State.port_setPort_ne _ _ _ _ (Ne.symm hq), ?_⟩
  rw [State.port_setPort_self]
  refine ⟨fun other => if_neg other, fun closing lapsed => ⟨_, if_pos ⟨closing, lapsed⟩⟩⟩

/-! ### The session (R161 to R165) -/

theorem attachTerm_eq_some {x : List Byte} {term : Nat} : attachTerm x = some term ↔ fieldOf x 0 3 = term ∧ 64 ≤ term := by
  by_cases long : 64 ≤ fieldOf x 0 3
  · rw [show attachTerm x = some (fieldOf x 0 3) from if_pos long, Option.some_inj]
    exact ⟨fun h => ⟨h, h ▸ long⟩, fun h => h.1⟩
  · rw [show attachTerm x = none from if_neg long]
    exact ⟨nofun, fun h => absurd (h.1.symm ▸ h.2) long⟩

theorem attachTerm_eq_none {x : List Byte} (h : fieldOf x 0 3 < 64) : attachTerm x = none := if_neg (by
  simp only [Config.minTerm]
  omega)

section
variable {s : State} {p : Port} {payload : List Byte}

theorem attachRequest_again (long : ¬ fieldOf payload 0 3 < 64) (session : (s.port p).session ≠ .idle) :
    attachRequest p payload s = (s, refuse .alreadyOpen) := by
  simp only [attachRequest, attachTerm_eq_some.2 ⟨rfl, Nat.le_of_not_lt long⟩]
  exact if_neg session

theorem attachRequest_new (long : ¬ fieldOf payload 0 3 < 64) (session : (s.port p).session = .idle) :
    attachRequest p payload s = (s.setPort p { s.port p with
      session := .opened, term := some (fieldOf payload 0 3), lastActivity := s.tb.wallTime, lapsed := false, resetFlag := false,
      sessions := (s.port p).sessions + 1 }, okWith (attachPayload p s.tb.wallTime)) := by
  simp only [attachRequest, attachTerm_eq_some.2 ⟨rfl, Nat.le_of_not_lt long⟩]
  exact if_pos session

theorem detachEvent_of_open {clk : Clock} (handed : s.handedRequest p .detach = some (payload, clk)) (isOpen : s.isOpen p = true)
    {h : InHand} (inHand : (s.port p).inHand = some h) : detachEvent p s = s.setPort p
      ({ (s.port p).close .detach with inHand := some { h with stage := .detaching } }.handParts (s.clock (.port p))) := by
  simp only [detachEvent, handed, inHand, isOpen]
  rfl

theorem lapseDue_iff {term : Nat} (isOpen : s.isOpen p = true) (hterm : (s.port p).term = some term) :
    s.lapseDue p = true ↔ term + 1 ≤ s.wallSince (s.port p).lastActivity := by
  simp [State.lapseDue, isOpen, hterm]

theorem lapseEvent_of_free (due : s.lapseDue p = true) (free : (s.port p).inHand = none) :
    lapseEvent p s = s.setPort p (((s.port p).close .lapsed).handParts (s.clock (.port p))) := by
  have free' : ((s.port p).close .lapsed).inHand = none := free
  simp only [lapseEvent, due, free', if_true]

theorem lapseEvent_of_waiting (due : s.lapseDue p = true) {h : InHand} (inHand : (s.port p).inHand = some h)
    (other : h.frame.kind ≠ 0x02) : lapseEvent p s = s.setPort p ((s.port p).close .lapsed) := by
  have inHand' : ((s.port p).close .lapsed).inHand = some h := inHand
  have wait : h.isDetach = false := beq_eq_false_iff_ne.2 other
  simp only [lapseEvent, due, inHand', wait, if_true]
  rfl

/-- What a lapse changes, whatever is in hand. -/
theorem lapseEvent_port (due : s.lapseDue p = true) : ∃ x, lapseEvent p s = s.setPort p x := by
  rw [lapseEvent, if_pos due]
  dsimp only
  split
  · exact ⟨_, rfl⟩
  · split <;> exact ⟨_, rfl⟩

end

/-- Settles O44: ATTACH opens an IDLE port, and DETACH and a silence longer than the term close an OPEN one. -/
theorem sessionsOpenAndClose : Obligations.SessionsOpenAndClose := by
  refine ⟨fun p s payload clk => ⟨fun h => ⟨_, rfl, ?attach⟩, fun h isOpen => ⟨_, rfl, ?detach⟩⟩,
    fun s p term isOpen hterm => ⟨fun early => ?early, fun late => ⟨_, rfl, ?lapse⟩⟩⟩
  case attach =>
    by_cases short : fieldOf payload 0 3 < 64
    · rw [if_pos short]
      exact request_refused h (by simp [attachRequest, attachTerm_eq_none short])
    rw [if_neg short]
    by_cases session : (s.port p).session ≠ .idle
    · rw [if_pos session]
      exact request_refused h (attachRequest_again (s := s.hear (.port p) clk) short session)
    rw [if_neg session]
    have does := attachRequest_new (s := s.hear (.port p) clk) short (not_not.1 session)
    obtain ⟨f, inHand, -, -⟩ := handedRequest_some.1 h
    have event := takeRequest_of_some (agent := .port p) (body := attachRequest p) h
    rw [does] at event
    rw [answer_of_some (h := ⟨f, .handed clk⟩) (by rw [State.port_setPort_self]; exact inHand)] at event
    rw [event]
    refine ⟨rfl, fun q hq => ?_, ⟨f, .handed clk⟩, (s.hear (.port p) clk).clock (.port p), inHand, ?_⟩
    · rw [State.port_setPort_ne _ _ _ _ (Ne.symm hq)]
      exact State.port_setPort_ne _ _ _ _ (Ne.symm hq)
    · rw [State.port_setPort_self, State.port_setPort_self]
      rfl
  case detach =>
    obtain ⟨f, inHand, -, -⟩ := handedRequest_some.1 h
    rw [detachEvent_of_open h isOpen inHand]
    exact ⟨rfl, fun q hq => State.port_setPort_ne _ _ _ _ (Ne.symm hq), _, _, inHand, State.port_setPort_self ..⟩
  case early =>
    exact congrArg Host.Outcome.next (if_neg (mt (lapseDue_iff isOpen hterm).1 (by omega)))
  case lapse =>
    have due := (lapseDue_iff isOpen hterm).2 late
    obtain ⟨x, event⟩ := lapseEvent_port due
    refine ⟨by rw [event]; rfl, fun q hq => by rw [event, State.port_setPort_ne _ _ _ _ (Ne.symm hq)], fun free => ?_,
      fun h inHand other => ?_⟩
    · rw [lapseEvent_of_free due free]
      exact ⟨_, State.port_setPort_self ..⟩
    · rw [lapseEvent_of_waiting due inHand other]
      exact State.port_setPort_self ..

/-! ### Teardown (R45, R165, R166, R182) -/

theorem Parts.get_clear (x : Parts) (b d : PartBlock) : (x.clear b).get d = if d = b then .idle else x.get d := by
  cases b <;> cases d <;> rfl

theorem PortRec.finishTeardown_parts (x : PortRec) : x.finishTeardown.parts = x.parts := by
  unfold PortRec.finishTeardown
  dsimp only
  split <;> rfl

theorem PortRec.finishTeardown_lapsed {x : PortRec} (cause : x.cause = some .lapsed) : x.finishTeardown = { x with
    session := .idle, term := none, cause := none, inHand := none, partsOut := 0, lapsed := true, replies := []
    txn := x.txn.map fun t => { t with headFlushed := true } } := by
  simp only [PortRec.finishTeardown, cause]

theorem PortRec.finishTeardown_detach {x : PortRec} (cause : x.cause = some .detach) {h : InHand} (inHand : x.inHand = some h) :
    x.finishTeardown = { x with
      session := .idle, term := none, cause := none, inHand := none, partsOut := 0, lapsed := false
      replies := x.replies ++ [h.frame.reply okEmpty] } := by
  simp only [PortRec.finishTeardown, cause, inHand]

/-- The port with one part's report taken. -/
def PortRec.reported (x : PortRec) (b : PartBlock) : PortRec := { x with parts := x.parts.clear b, partsOut := x.partsOut - 1 }

theorem teardownReportEvent_of_reported {s : State} {p : Port} {b : PartBlock} {clk : Clock}
    (h : (s.port p).parts.get b = .reported clk) : teardownReportEvent p b s = (s.hear (.port p) clk).setPort p
      (if (s.port p).partsOut - 1 = 0 then ((s.port p).reported b).finishTeardown else (s.port p).reported b) := by
  simp only [teardownReportEvent, h]
  rfl

/-- Settles O45: one report taken, and the last one ends the teardown. -/
theorem lastReportEndsTheTeardown : Obligations.LastReportEndsTheTeardown := by
  refine fun s p b clk h => ⟨_, rfl, ?_⟩
  rw [teardownReportEvent_of_reported h]
  have parts : (if (s.port p).partsOut - 1 = 0 then ((s.port p).reported b).finishTeardown
      else (s.port p).reported b).parts = (s.port p).parts.clear b := by
    split
    · exact PortRec.finishTeardown_parts _
    · rfl
  refine ⟨rfl, fun q hq => State.port_setPort_ne _ _ _ _ (Ne.symm hq), ?_⟩
  rw [State.port_setPort_self, parts]
  refine ⟨by rw [Parts.get_clear, if_pos rfl], fun d hd => by rw [Parts.get_clear, if_neg hd], fun more => ?_, fun last => ?_⟩
  · rw [if_neg (by omega)]
    rfl
  · rw [if_pos (by omega)]
    exact ⟨fun i cause inHand => PortRec.finishTeardown_detach (x := (s.port p).reported b) cause inHand,
      fun cause => PortRec.finishTeardown_lapsed (x := (s.port p).reported b) cause⟩

/-- Settles O46: the port's entries, notices and latch are gone, and the parts are reported. -/
theorem teardownPartsRemoveWhatThePortOwns : Obligations.TeardownPartsRemoveWhatThePortOwns := by
  refine fun s p clk => ⟨fun handed idle => ⟨_, rfl, ?_⟩, fun handed => ⟨_, rfl, ?_⟩⟩
  · have event : ∃ k, scheduleTeardownEvent p s = ({ s.hear .schedule clk with
        sched := s.sched.remove fun e => e.owner == p } : State).setPort p
          { s.port p with parts := { (s.port p).parts with schedule := .reported k } } := by
      have busy : ¬ s.scheduleBusy = true := by simp [idle]
      simp only [scheduleTeardownEvent, handed, if_neg busy]
      exact ⟨_, rfl⟩
    obtain ⟨k, event⟩ := event
    rw [event]
    refine ⟨rfl, rfl, fun ok => ?_, ⟨k, State.port_setPort_self ..⟩, fun q hq => State.port_setPort_ne _ _ _ _ (Ne.symm hq)⟩
    refine (remove_counts s.sched (fun e => e.owner == p) p).trans ?_
    simp [ok.counts p, Schedule.ownedBy]
  · have event : ∃ k, noticeTeardownEvent p s = ((s.hear (.queue p) clk).setQueue p {}).setPort p
        { s.port p with parts := { (s.port p).parts with notices := .reported k } } := by
      simp only [noticeTeardownEvent, handed]
      exact ⟨_, rfl⟩
    obtain ⟨k, event⟩ := event
    have queue : (noticeTeardownEvent p s).queue p = ⟨[], false⟩ := by
      rw [event]
      exact State.queue_setQueue_self ..
    refine ⟨by rw [event]; rfl, queue, ?_, fun q hq => ?_, ?_, fun q hq => ?_⟩
    · simp [State.attnPin, State.attn, queue]
    · rw [event]
      exact State.queue_setQueue_ne _ _ _ _ (Ne.symm hq)
    · rw [event]
      exact ⟨k, State.port_setPort_self ..⟩
    · rw [event]
      exact State.port_setPort_ne _ _ _ _ (Ne.symm hq)

end Sys2Proof.Machine
end

section
/-! PROOFS. Reset: what puts every block at its reset values, and what those are. -/

namespace Sys2Proof.Machine

/-- In the reset state every output is low, every ATTN pin high and every MISO pin undriven. -/
theorem pins_of_inReset {s : State} (h : s.inReset = true) :
    (∀ c, s.outPin c = false) ∧ (∀ p, s.attnPin p = true) ∧ ∀ p k, s.misoByte p k = none := by
  refine ⟨fun c => ?_, fun p => ?_, fun p k => ?_⟩
  · rw [State.outPin, h]
    rfl
  · rw [State.attnPin, h]
    rfl
  · rw [State.misoByte, h]
    rfl

/-- Settles O50: RESET low for 16 samples, the release after it and power clear every block, and nothing less does. -/
theorem resetClearsEveryBlock : Obligations.ResetClearsEveryBlock := by
  refine fun s => ⟨fun n few => ?_, fun n enough => ⟨_, rfl, ?_⟩, fun pins reset low => ⟨_, rfl, ?_⟩,
    ⟨_, rfl, rfl, port_cleared s true false, fun pins => ?_⟩⟩
  · exact congrArg Host.Outcome.next (if_pos few)
  · have event : resetEntryEvent n s = s.cleared true true := if_neg (Nat.not_lt.2 enough)
    rw [event]
    exact ⟨rfl, port_cleared s true true, pins_of_inReset rfl⟩
  · have event : resetReleaseEvent pins s =
        { s.cleared false true with lines := Vector.ofFn fun i => Line.atRelease (pins.getLsbD i.val) } := if_pos ⟨reset, low⟩
    rw [event]
    exact ⟨rfl, port_cleared s false true, fun i => release_line (s.cleared false true) pins i⟩
  · exact congrArg Host.Outcome.next (if_neg fun h => Bool.false_ne_true h.2)

theorem reset_port (p : Port) : State.reset.port p = {} := Vector.getElem_replicate p.isLt

theorem reset_sub (p : Port) : State.reset.sub p = none := Vector.getElem_replicate p.isLt

/-- Settles O51: each record is its default, and each invariant holds of it. -/
theorem resetValuesMeetInvariants : Obligations.ResetValuesMeetInvariants := by
  refine ⟨?_, reset_tb_ok, reset_sched_ok, reset_chan_ok, reset_leasesOk, reset_line_ok, reset_journal_ok, reset_groupsOk,
    fun p => ?port, reset_noticesOk⟩
  case port =>
    rw [reset_port]
    exact pin_portRec_ok false
  rintro s rfl
  refine ⟨rfl, rfl, rfl, rfl, rfl, rfl, rfl, rfl, rfl, rfl, fun p => Vector.getElem_replicate p.isLt, fun c => ?_, fun r => ?_,
    fun i => ?_, rfl, rfl, rfl, rfl, reset_sub, fun g => ?_, fun p => ?_, fun p => ?_⟩
  · rw [reset_chan]
    exact ⟨rfl, rfl, rfl, rfl, rfl⟩
  · rw [State.holder, reset_lease]
    exact ⟨rfl, rfl, rfl, rfl, rfl⟩
  · rw [reset_line]
    exact ⟨rfl, rfl, rfl, rfl, rfl⟩
  · rw [reset_group]
    exact ⟨rfl, rfl, rfl, rfl, rfl, rfl⟩
  · rw [reset_port]
    exact ⟨rfl, rfl, rfl, rfl, rfl, rfl, rfl, rfl, rfl, rfl, rfl, rfl, rfl⟩
  · rw [State.attnPin, State.attn, reset_queue]
    exact ⟨rfl, rfl, rfl⟩

end Sys2Proof.Machine
end

section
/-! PROOFS. The payloads of requests: each code read back, the ranges of each argument, and the entry that a SUBMIT spells. -/

namespace Sys2Proof.Machine

/-! ### Codes -/

theorem asFin_eq_some {n x : Nat} {i : Fin n} : asFin n x = some i ↔ x = i.val := by
  unfold asFin
  split
  · next h => simp [Fin.ext_iff]
  · next h => exact iff_of_false nofun fun e => h (e ▸ i.isLt)

theorem asFin_eq_none {n x : Nat} : asFin n x = none ↔ n ≤ x := by
  unfold asFin
  split
  · next h => exact iff_of_false nofun (by omega)
  · next h => exact iff_of_true rfl (by omega)

theorem asLevel_eq_some {x : Nat} {b : Level} : asLevel x = some b ↔ x = if b then 1 else 0 := by
  rcases x with _ | _ | x <;> cases b <;> simp [asLevel]

theorem asLevel_eq_none {x : Nat} : asLevel x = none ↔ 2 ≤ x := by
  rcases x with _ | _ | x <;> simp [asLevel]

theorem asPaceMode_eq_some {x : Nat} {m : PaceMode} : asPaceMode x = some m ↔ x = m.code := by
  rcases x with _ | _ | _ | _ | x <;> cases m <;> simp [asPaceMode, PaceMode.code]

/-- The code of a release policy (R186). -/
def policyCode : ReleasePolicy → Nat
  | .keep => 0
  | .safe => 1

theorem asPolicy_eq_some {x : Nat} {m : ReleasePolicy} : asPolicy x = some m ↔ x = policyCode m := by
  rcases x with _ | _ | x <;> cases m <;> simp [asPolicy, policyCode]

theorem asEdgeMode_eq_some {x : Nat} {m : EdgeMode} : asEdgeMode x = some m ↔ x = m.code := by
  rcases x with _ | _ | _ | _ | x <;> cases m <;> simp [asEdgeMode, EdgeMode.code]

/-- The code of a subscription mode (R186). -/
def subModeCode : SubMode → Nat
  | .keep => 0
  | .skim => 1

theorem asSubMode_eq_some {x : Nat} {m : SubMode} : asSubMode x = some m ↔ x = subModeCode m := by
  rcases x with _ | _ | x <;> cases m <;> simp [asSubMode, subModeCode]

/-- A number spelt as a mask. -/
theorem ofNat_eq_iff {w n : Nat} (h : n < 2 ^ w) {x : BitVec w} : BitVec.ofNat w n = x ↔ n = x.toNat := by
  refine ⟨fun e => ?_, fun e => ?_⟩
  · rw [← e, BitVec.toNat_ofNat, Nat.mod_eq_of_lt h]
  · rw [e, BitVec.ofNat_toNat, BitVec.setWidth_eq]

/-! ### Fields (spec/10) -/

theorem fieldOf_zero (x : List Byte) (place : Nat) : fieldOf x place 0 = 0 := by simp [fieldOf, numberOf]

/-- A field one byte longer: most significant byte first. -/
theorem fieldOf_succ {x : List Byte} {place len : Nat} {b : Byte} (h : x[place + len]? = some b) :
    fieldOf x place (len + 1) = fieldOf x place len * 256 + b.toNat := by
  have last : (x.drop place)[len]? = some b := by rw [List.getElem?_drop, h]
  rw [fieldOf, List.take_add_one, last, numberOf_append]
  simp [fieldOf, numberOf]

/-! ### The arguments of each request -/

theorem paceArgs_eq_some {x : List Byte} {mode : PaceMode} {factor : Nat} : paceArgs x = some (mode, factor) ↔
    asPaceMode (fieldOf x 0 1) = some mode ∧ fieldOf x 1 1 = factor ∧ (mode = .creep → 2 ≤ factor ∧ factor ≤ 16) := by
  unfold paceArgs
  cases asPaceMode (fieldOf x 0 1) with
  | none => simp
  | some m =>
    cases m
    case creep =>
      simp only [Option.ite_none_right_eq_some, Option.some.injEq, Prod.mk.injEq]
      exact ⟨fun ⟨range, hm, hf⟩ => ⟨hm, hf, fun _ => hf ▸ range⟩, fun ⟨hm, hf, range⟩ => ⟨hf ▸ range hm.symm, hm, hf⟩⟩
    all_goals
      simp only [Option.some.injEq, Prod.mk.injEq]
      exact ⟨fun ⟨hm, hf⟩ => ⟨hm, hf, fun hc => by rw [hc] at hm; cases hm⟩, fun ⟨hm, hf, _⟩ => ⟨hm, hf⟩⟩

theorem setclockArgs_eq_some {x : List Byte} {tdiv cycle : Nat} : setclockArgs x = some (tdiv, cycle) ↔
    fieldOf x 0 2 = tdiv ∧ fieldOf x 2 4 = cycle ∧ 1 ≤ tdiv ∧ tdiv ≤ 256 ∧ 16 ≤ cycle ∧ cycle ≤ 16777216 := by
  simp only [setclockArgs, Option.ite_none_right_eq_some, Option.some.injEq, Prod.mk.injEq]
  exact ⟨fun ⟨range, ht, hc⟩ => ⟨ht, hc, ht ▸ hc ▸ range⟩, fun ⟨ht, hc, range⟩ => ⟨ht.symm ▸ hc.symm ▸ range, ht, hc⟩⟩

theorem channelConfigArgs_eq_some {x : List Byte} {c : Chan} {safe : Level} {policy : ReleasePolicy} :
    channelConfigArgs x = some (c, safe, policy) ↔
      asFin 16 (fieldOf x 0 1) = some c ∧ asLevel (fieldOf x 1 1) = some safe ∧ asPolicy (fieldOf x 2 1) = some policy := by
  unfold channelConfigArgs
  split
  · next c' level policy' hc hl hp => simp [hc, hl, hp]
  · next other =>
    refine iff_of_false nofun fun ⟨hc, hl, hp⟩ => other _ _ _ hc hl hp

theorem lineConfigArgs_eq_some {x : List Byte} {i : LineId} {mode : EdgeMode} {q d : Nat} : lineConfigArgs x = some (i, mode, q, d) ↔
    asFin 12 (fieldOf x 0 1) = some i ∧ asEdgeMode (fieldOf x 1 1) = some mode ∧ fieldOf x 2 1 = q ∧ fieldOf x 3 1 = d ∧ d ≤ 7 := by
  unfold lineConfigArgs
  split
  · next i' mode' hi hm =>
    simp only [hi, hm, Option.ite_none_right_eq_some, Option.some.injEq, Prod.mk.injEq]
    exact ⟨fun ⟨range, hi, hm, hq, hd⟩ => ⟨hi, hm, hq, hd, hd ▸ range⟩, fun ⟨hi, hm, hq, hd, range⟩ => ⟨hd.symm ▸ range, hi, hm, hq, hd⟩⟩
  · next other => exact iff_of_false nofun fun ⟨hi, hm, _⟩ => other _ _ hi hm

theorem tripConfigArgs_eq_some {x : List Byte} {g : GroupId} {sources : LineSet} {active : Level} {channels : ChanSet} :
    tripConfigArgs x = some (g, sources, active, channels) ↔ asFin 4 (fieldOf x 0 1) = some g ∧ fieldOf x 1 2 = sources.toNat ∧
      asLevel (fieldOf x 3 1) = some active ∧ fieldOf x 4 2 = channels.toNat := by
  have wide : fieldOf x 4 2 < 2 ^ 16 := fieldOf_lt x 4 2
  have narrow : sources.toNat < 2 ^ 12 := sources.isLt
  unfold tripConfigArgs
  split
  · next g' active' hg ha =>
    simp only [hg, ha, Option.ite_none_right_eq_some, Option.some.injEq, Prod.mk.injEq, ofNat_eq_iff wide]
    refine ⟨fun ⟨range, hg, hs, ha, hc⟩ => ⟨hg, (ofNat_eq_iff range).1 hs, ha, hc⟩, fun ⟨hg, hs, ha, hc⟩ => ?_⟩
    have range : fieldOf x 1 2 < 2 ^ 12 := hs ▸ narrow
    exact ⟨range, hg, (ofNat_eq_iff range).2 hs, ha, hc⟩
  · next other => exact iff_of_false nofun fun ⟨hg, _, ha, _⟩ => other _ _ hg ha

theorem subscribeArgs_eq_some {x : List Byte} {mask : KindMask} {mode : SubMode} {oldest : Bool} :
    subscribeArgs x = some (mask, mode, oldest) ↔ fieldOf x 0 2 = mask.toNat ∧ mask ≠ 0 ∧ asSubMode (fieldOf x 2 1) = some mode ∧
      asLevel (fieldOf x 3 1) = some oldest := by
  have narrow : mask.toNat < 2 ^ 14 := mask.isLt
  have some_ : mask ≠ 0 ↔ 0 < mask.toNat := by
    rw [Nat.pos_iff_ne_zero, ne_eq, ne_eq, ← BitVec.toNat_inj]
    exact Iff.rfl
  unfold subscribeArgs
  dsimp only
  split
  · next mode' oldest' hm ho =>
    simp only [hm, ho, Option.ite_none_right_eq_some, Option.some.injEq, Prod.mk.injEq, some_]
    refine ⟨fun ⟨⟨pos, range⟩, hx, hm, ho⟩ => ?_, fun ⟨hx, pos, hm, ho⟩ => ?_⟩
    · have spelt := (ofNat_eq_iff range).1 hx
      exact ⟨spelt, spelt ▸ pos, hm, ho⟩
    · have range : fieldOf x 0 2 < 2 ^ 14 := hx ▸ narrow
      exact ⟨⟨hx ▸ pos, range⟩, (ofNat_eq_iff range).2 hx, hm, ho⟩
  · next other => exact iff_of_false nofun fun ⟨_, _, hm, ho⟩ => other _ _ hm ho

theorem countArg_eq_some {m most n : Nat} : (if 1 ≤ m ∧ m ≤ most then some m else none) = some n ↔ m = n ∧ 1 ≤ n ∧ n ≤ most := by
  simp only [Option.ite_none_right_eq_some, Option.some.injEq]
  exact ⟨fun ⟨range, h⟩ => ⟨h, h ▸ range⟩, fun ⟨h, range⟩ => ⟨h.symm ▸ range, h⟩⟩

theorem cancelChannelArg_eq_some {x : List Byte} : (cancelChannelArg x = some none ↔ fieldOf x 0 1 = 255) ∧
    ∀ c : Chan, cancelChannelArg x = some (some c) ↔ fieldOf x 0 1 = c.val := by
  have known : ∀ c : Chan, c.val < 255 := fun c => by omega
  unfold cancelChannelArg
  dsimp only
  split
  · next all => exact ⟨iff_of_true rfl all, fun c => iff_of_false nofun fun h => absurd (known c) (by omega)⟩
  · next one => 
    refine ⟨iff_of_false (by simp) one, fun c => ?_⟩
    rw [Option.map_eq_some_iff]
    simp [asFin_eq_some]

/-! ### The parts of a SUBMIT (R24, R187) -/

section
variable {x : List Byte}

theorem submitAction_set (h : fieldOf x 0 1 = 0) : submitAction x =
    (asFin 16 (fieldOf x 8 1)).bind fun c => (asLevel (fieldOf x 9 1)).map fun level => .set c level := by
  unfold submitAction
  rw [h]
  cases asFin 16 (fieldOf x 8 1) <;> cases asLevel (fieldOf x 9 1) <;> rfl

theorem submitAction_pulse (h : fieldOf x 0 1 = 1) : submitAction x =
    (asFin 16 (fieldOf x 8 1)).bind fun c => if 1 ≤ fieldOf x 9 3 then some (.pulse c (fieldOf x 9 3)) else none := by
  unfold submitAction
  rw [h]
  cases asFin 16 (fieldOf x 8 1) <;> rfl

theorem submitAction_train (h : fieldOf x 0 1 = 2) : submitAction x = (asFin 16 (fieldOf x 8 1)).bind fun c =>
    if 2 ≤ fieldOf x 9 3 ∧ 1 ≤ fieldOf x 12 3 ∧ fieldOf x 12 3 ≤ fieldOf x 9 3 - 1 then
      some (.train c (fieldOf x 9 3) (fieldOf x 12 3) (fieldOf x 15 2)) else none := by
  unfold submitAction
  rw [h]
  cases asFin 16 (fieldOf x 8 1) <;> rfl

theorem submitAction_groupSet (h : fieldOf x 0 1 = 3) : submitAction x = if fieldOf x 8 2 = 0 then none
    else some (.groupSet (BitVec.ofNat 16 (fieldOf x 8 2)) (BitVec.ofNat 16 (fieldOf x 10 2))) := by
  unfold submitAction
  rw [h]
  rfl

theorem submitAction_mark (h : fieldOf x 0 1 = 4) : submitAction x = some .mark := by
  unfold submitAction
  rw [h]
  rfl

theorem submitAction_unknown {k : Nat} (h : fieldOf x 0 1 = k + 5) : submitAction x = none := by
  unfold submitAction
  rw [h]
  rfl

theorem submitRepeat_of_has (h : submitHasRepeat x = true) : submitRepeat x =
    if fieldOf x (submitRepeatAt x) 4 = 0 then none
    else some (some ⟨fieldOf x (submitRepeatAt x) 4,
      if fieldOf x (submitRepeatAt x + 4) 2 = 0 then none else some (fieldOf x (submitRepeatAt x + 4) 2)⟩) := if_pos h

theorem submitRepeat_of_not (h : submitHasRepeat x = false) : submitRepeat x = some none := if_neg (by simp [h])

theorem submitGuard_of_has (h : submitHasGuard x = true) : submitGuard x = (asFin 12 (fieldOf x (submitGuardAt x) 1)).bind fun line =>
    (asLevel (fieldOf x (submitGuardAt x + 1) 1)).map fun level => some ⟨line, level⟩ := by
  rw [submitGuard, if_pos h]
  cases asFin 12 (fieldOf x (submitGuardAt x) 1) <;> cases asLevel (fieldOf x (submitGuardAt x + 1) 1) <;> rfl

theorem submitGuard_of_not (h : submitHasGuard x = false) : submitGuard x = some none := if_neg (by simp [h])

/-! ### A SUBMIT that asks for nothing -/

theorem asFin_bind_eq_none {n m : Nat} {α : Type} {f : Fin n → Option α} {P : Prop} (h : ∀ i, f i = none ↔ P) :
    (asFin n m).bind f = none ↔ n ≤ m ∨ P := by
  rw [← asFin_eq_none]
  cases asFin n m <;> simp [h]

theorem submitAction_eq_none : submitAction x = none ↔ (match fieldOf x 0 1 with
    | 0 => 16 ≤ fieldOf x 8 1 ∨ 2 ≤ fieldOf x 9 1
    | 1 => 16 ≤ fieldOf x 8 1 ∨ fieldOf x 9 3 = 0
    | 2 => 16 ≤ fieldOf x 8 1 ∨ fieldOf x 9 3 < 2 ∨ fieldOf x 12 3 = 0 ∨ fieldOf x 9 3 ≤ fieldOf x 12 3
    | 3 => fieldOf x 8 2 = 0
    | 4 => False
    | _ => True) := by
  rcases h : fieldOf x 0 1 with _ | _ | _ | _ | _ | k
  · rw [submitAction_set h]
    exact asFin_bind_eq_none fun c => by rw [Option.map_eq_none_iff, asLevel_eq_none]
  · rw [submitAction_pulse h]
    exact asFin_bind_eq_none fun c => by simp
  · rw [submitAction_train h]
    refine asFin_bind_eq_none fun c => ?_
    rw [ite_eq_right_iff]
    simp only [reduceCtorEq, imp_false]
    omega
  · rw [submitAction_groupSet h]
    simp
  · simp [submitAction_mark h]
  · simp [submitAction_unknown h]

theorem submitRepeat_eq_none : submitRepeat x = none ↔ submitHasRepeat x = true ∧ fieldOf x (submitRepeatAt x) 4 = 0 := by
  cases has : submitHasRepeat x with
  | true => simp [submitRepeat_of_has has]
  | false => simp [submitRepeat_of_not has]

theorem submitGuard_eq_none : submitGuard x = none ↔
    submitHasGuard x = true ∧ (12 ≤ fieldOf x (submitGuardAt x) 1 ∨ 2 ≤ fieldOf x (submitGuardAt x + 1) 1) := by
  cases has : submitHasGuard x with
  | true =>
    rw [submitGuard_of_has has, asFin_bind_eq_none fun c => by rw [Option.map_eq_none_iff, asLevel_eq_none]]
    simp
  | false => simp [submitGuard_of_not has]

theorem submitEntry_eq_none {p : Port} : submitEntry p x = none ↔
    16 ≤ fieldOf x 1 1 ∨ submitAction x = none ∨ submitRepeat x = none ∨ submitGuard x = none := by
  unfold submitEntry
  cases submitAction x <;> cases submitRepeat x <;> cases submitGuard x <;> simp

end

/-! ### A SUBMIT payload made and read back (R187) -/

/-- The first eight bytes of a SUBMIT payload: the kind, the options and the due time. -/
def Entry.submitHead (e : Entry) : List Byte :=
  bytesOf 1 e.action.code
    ++ bytesOf 1 (bit e.notify 0 + bit (e.late == .fire) 1 + bit e.rep.isSome 2 + bit e.guard.isSome 3)
    ++ bytesOf 6 e.due

/-- The repeat part of a SUBMIT payload, empty when there is none. -/
def Entry.submitRep (e : Entry) : List Byte :=
  match e.rep with
  | some r => bytesOf 4 r.interval ++ bytesOf 2 (r.remaining.getD 0)
  | none => []

/-- The guard part of a SUBMIT payload, empty when there is none. -/
def Entry.submitGuardBytes (e : Entry) : List Byte :=
  match e.guard with
  | some g => bytesOf 1 g.line.val ++ bytesOf 1 (bit g.level 0)
  | none => []

theorem submitPayload_eq (e : Entry) :
    e.submitPayload = e.submitHead ++ (e.action.body ++ (e.submitRep ++ e.submitGuardBytes)) := by
  rw [← List.append_assoc, ← List.append_assoc]
  rfl

@[simp] theorem length_submitHead (e : Entry) : e.submitHead.length = 8 := by simp [Entry.submitHead]

theorem length_body (a : Action) : a.body.length = submitBodyLength a.code := by
  cases a <;> simp [Action.body, Action.code, submitBodyLength]

theorem length_submitRep (e : Entry) : e.submitRep.length = if e.rep.isSome then 6 else 0 := by
  cases h : e.rep <;> simp [Entry.submitRep, h]

theorem length_submitGuardBytes (e : Entry) : e.submitGuardBytes.length = if e.guard.isSome then 2 else 0 := by
  cases h : e.guard <;> simp [Entry.submitGuardBytes, h]

/-- The options byte, bit by bit. -/
theorem options_bits : ∀ notify fire rep guard : Bool, let x := bit notify 0 + bit fire 1 + bit rep 2 + bit guard 3
    x < 16 ∧ x.testBit 0 = notify ∧ x.testBit 1 = fire ∧ x.testBit 2 = rep ∧ x.testBit 3 = guard := by decide

section
variable {e : Entry}

/-- What the head's fields read back. -/
theorem submitHead_fields (due : e.due ≤ Config.lastMachTime) :
    fieldOf e.submitPayload 0 1 = e.action.code ∧
    fieldOf e.submitPayload 1 1 = bit e.notify 0 + bit (e.late == .fire) 1 + bit e.rep.isSome 2 + bit e.guard.isSome 3 ∧
    fieldOf e.submitPayload 2 6 = e.due := by
  obtain ⟨options, -⟩ := options_bits e.notify (e.late == .fire) e.rep.isSome e.guard.isSome
  have head : ∀ place len, place + len ≤ 8 → fieldOf e.submitPayload place len = fieldOf e.submitHead place len :=
    fun place len h => by rw [submitPayload_eq, fieldOf_append_left (by simpa using h)]
  rw [head 0 1 (by decide), head 1 1 (by decide), head 2 6 (by decide)]
  have code := e.action.code_lt
  simp only [Entry.submitHead, List.append_assoc]
  refine ⟨?_, ?_, ?_⟩
  · rw [fieldOf_bytesOf_append]
    exact Nat.mod_eq_of_lt (by omega)
  · rw [fieldOf_skip_bytesOf (by decide)]
    exact (fieldOf_bytesOf_append ..).trans (Nat.mod_eq_of_lt (by omega))
  · rw [fieldOf_skip_bytesOf (by decide), fieldOf_skip_bytesOf (by decide)]
    simp only [Config.lastMachTime] at due
    exact (fieldOf_bytesOf ..).trans (Nat.mod_eq_of_lt (by omega))

/-- What stands after the head is read there. -/
theorem submitPayload_field (e : Entry) {place : Nat} (h : 8 ≤ place) (len : Nat) :
    fieldOf e.submitPayload place len = fieldOf (e.action.body ++ (e.submitRep ++ e.submitGuardBytes)) (place - 8) len := by
  rw [submitPayload_eq, fieldOf_append_right (by simpa using h)]
  simp

theorem asFin_byte {n : Nat} (i : Fin n) (h : n ≤ 256) : asFin n (i.val % 256) = some i :=
  asFin_eq_some.2 (Nat.mod_eq_of_lt (i.isLt.trans_le h))

theorem asLevel_byte (level : Level) : asLevel ((if level = true then 1 else 0) % 256) = some level :=
  asLevel_eq_some.2 (by cases level <;> rfl)

theorem submitAction_submitPayload (ok : e.Askable) : submitAction e.submitPayload = some e.action := by
  obtain ⟨code, -, -⟩ := submitHead_fields ok.due
  have field := fun place len (h : 8 ≤ place) => submitPayload_field e h len
  have range := ok.action
  generalize e.submitRep ++ e.submitGuardBytes = rest at field
  rcases h : e.action with ⟨c, level⟩ | ⟨c, width⟩ | ⟨c, period, onTime, pulses⟩ | ⟨mask, values⟩ | _ <;>
    rw [h] at code field range <;> simp only [Action.body, List.append_assoc] at field
  case set =>
    rw [submitAction_set code, field _ _ (by decide), field _ _ (by decide)]
    simp [asFin_byte c (by decide), asLevel_byte]
  case pulse =>
    obtain ⟨positive, wide⟩ := range
    simp only [Config.max24] at wide
    rw [submitAction_pulse code, field _ _ (by decide), field _ _ (by decide)]
    simp [asFin_byte c (by decide), Nat.mod_eq_of_lt (show width < 16777216 by omega)]
    omega
  case train =>
    obtain ⟨long, wide, positive, less, few⟩ := range
    simp only [Config.max24, Config.max16] at wide few
    rw [submitAction_train code, field _ _ (by decide), field _ _ (by decide), field _ _ (by decide), field _ _ (by decide)]
    simp [asFin_byte c (by decide), Nat.mod_eq_of_lt (show period < 16777216 by omega),
      Nat.mod_eq_of_lt (show onTime < 16777216 by omega), Nat.mod_eq_of_lt (show pulses < 65536 by omega)]
    omega
  case groupSet =>
    have narrow : ∀ cs : ChanSet, cs.toNat % 65536 = cs.toNat := fun cs => Nat.mod_eq_of_lt cs.isLt
    rw [submitAction_groupSet code, field _ _ (by decide), field _ _ (by decide)]
    simp [narrow]
    exact fun none => range (BitVec.eq_of_toNat_eq none)
  case mark => exact submitAction_mark code

/-- The options announce the parts, and the parts stand where the options and the kind say. -/
theorem submitPayload_parts (ok : e.Askable) :
    submitHasRepeat e.submitPayload = e.rep.isSome ∧ submitHasGuard e.submitPayload = e.guard.isSome ∧
    submitRepeatAt e.submitPayload = 8 + e.action.body.length ∧
    submitGuardAt e.submitPayload = 8 + e.action.body.length + e.submitRep.length := by
  obtain ⟨code, options, -⟩ := submitHead_fields ok.due
  obtain ⟨-, -, -, hasRep, hasGuard⟩ := options_bits e.notify (e.late == .fire) e.rep.isSome e.guard.isSome
  have rep : submitHasRepeat e.submitPayload = e.rep.isSome := by rw [submitHasRepeat, options, hasRep]
  have repAt : submitRepeatAt e.submitPayload = 8 + e.action.body.length := by rw [submitRepeatAt, code, length_body]
  exact ⟨rep, by rw [submitHasGuard, options, hasGuard], repAt, by rw [submitGuardAt, repAt, rep, length_submitRep]⟩

theorem length_submitPayload (ok : e.Askable) : lengthOk .submit e.submitPayload = true := by
  obtain ⟨-, guard, -, guardAt⟩ := submitPayload_parts ok
  rw [lengthOk_submit, submitLength, guard, guardAt, ← length_submitGuardBytes, submitPayload_eq]
  simp only [List.length_append, length_submitHead]
  omega

theorem submitRepeat_submitPayload (ok : e.Askable) : submitRepeat e.submitPayload = some e.rep := by
  obtain ⟨has, -, repAt, -⟩ := submitPayload_parts ok
  have field : ∀ k len, fieldOf e.submitPayload (8 + e.action.body.length + k) len =
      fieldOf (e.submitRep ++ e.submitGuardBytes) k len := fun k len => by
    rw [submitPayload_field e (by omega), fieldOf_append_right (by omega)]
    congr 1
    omega
  cases rep : e.rep with
  | none => exact submitRepeat_of_not (by rw [has, rep]; rfl)
  | some r =>
    obtain ⟨positive, narrow⟩ := ok.interval r rep
    have count : (if r.remaining.getD 0 % 65536 = 0 then none else some (r.remaining.getD 0 % 65536)) = r.remaining := by
      cases counted : r.remaining with
      | none => rfl
      | some n =>
        obtain ⟨once, few⟩ := ok.remaining r n rep counted
        simp only [Config.max16] at few
        rw [Option.getD_some, Nat.mod_eq_of_lt (by omega), if_neg (by omega)]
    have first := field 0 4
    have second := field 4 2
    simp only [Entry.submitRep, rep, List.append_assoc] at first second
    simp at first second
    rw [submitRepeat_of_has (by rw [has, rep]; rfl), repAt, first, second, count, Nat.mod_eq_of_lt (show r.interval < 4294967296 from narrow),
      if_neg (Nat.pos_iff_ne_zero.1 positive)]

theorem submitGuard_submitPayload (ok : e.Askable) : submitGuard e.submitPayload = some e.guard := by
  obtain ⟨-, has, -, guardAt⟩ := submitPayload_parts ok
  have field : ∀ k len, fieldOf e.submitPayload (8 + e.action.body.length + e.submitRep.length + k) len =
      fieldOf e.submitGuardBytes k len := fun k len => by
    rw [submitPayload_field e (by omega), fieldOf_append_right (by omega), fieldOf_append_right (by omega)]
    congr 1
    omega
  cases guard : e.guard with
  | none => exact submitGuard_of_not (by rw [has, guard]; rfl)
  | some g =>
    have first := field 0 1
    have second := field 1 1
    simp only [Entry.submitGuardBytes, guard] at first second
    simp at first second
    rw [submitGuard_of_has (by rw [has, guard]; rfl), guardAt, first, second, asFin_byte g.line (by decide), asLevel_byte]
    rfl

end

/-- Settles O10: the SUBMIT payload is read part by part, and each argument is a field in its range. -/
theorem submitPayloadReadsBack : Obligations.SubmitPayloadReadsBack := by
  refine ⟨fun p e ok => ⟨length_submitPayload ok, ?back⟩, fun p x => ?none, fun x place len b => ⟨fieldOf_zero x place, fieldOf_succ⟩,
    fun x mode factor => ?pace, fun x tdiv cycle => setclockArgs_eq_some, fun x r hold wait => ?claim, fun x r => asFin_eq_some,
    fun x c safe policy => ?channel, fun x i mode q d => ?line, fun x g sources active channels => ?trip, fun x g => asFin_eq_some,
    fun x mask mode oldest => ?subscribe, fun x n => countArg_eq_some, fun x n => countArg_eq_some, fun x term => attachTerm_eq_some,
    fun x => ⟨rfl, rfl, cancelChannelArg_eq_some⟩⟩
  case back =>
    obtain ⟨-, options, due⟩ := submitHead_fields ok.due
    obtain ⟨known, notify, fire, -, -⟩ := options_bits e.notify (e.late == .fire) e.rep.isSome e.guard.isSome
    simp only [submitEntry, submitAction_submitPayload ok, submitRepeat_submitPayload ok, submitGuard_submitPayload ok, options,
      due, if_pos known, notify, fire]
    cases e.late <;> rfl
  case none =>
    rw [submitEntry_eq_none, submitAction_eq_none, submitRepeat_eq_none, submitGuard_eq_none]
    exact Iff.rfl
  case pace =>
    rw [paceArgs_eq_some, asPaceMode_eq_some]
    cases mode <;> exact Iff.rfl
  case claim => simp [claimArgs, asFin_eq_some]
  case channel =>
    rw [channelConfigArgs_eq_some, asFin_eq_some, asLevel_eq_some, asPolicy_eq_some]
    cases policy <;> exact Iff.rfl
  case line =>
    rw [lineConfigArgs_eq_some, asFin_eq_some, asEdgeMode_eq_some]
    cases mode <;> exact Iff.rfl
  case trip => rw [tripConfigArgs_eq_some, asFin_eq_some, asLevel_eq_some]
  case subscribe =>
    rw [subscribeArgs_eq_some, asLevel_eq_some, asSubMode_eq_some]
    cases mode <;> exact Iff.rfl

end Sys2Proof.Machine
end

section
/-! PROOFS. Pasts: what an agent hears and posts is in the past of what it posts next. -/

namespace Sys2Proof.Machine

/-! ### Pasts that grow (R174) -/

/-- One past holds the other. -/
def Clock.Le (k k' : Clock) : Prop := ∀ b, k.get b ≤ k'.get b

namespace Clock.Le

variable {k k' k'' : Clock}

theorem refl (k : Clock) : k.Le k := fun _ => Nat.le_refl _

theorem trans (h : k.Le k') (h' : k'.Le k'') : k.Le k'' := fun b => (h b).trans (h' b)

theorem join_left (k k' : Clock) : k.Le (k.join k') := fun b => by
  rw [Clock.get_join]
  exact Nat.le_max_left ..

theorem join_right (k k' : Clock) : k'.Le (k.join k') := fun b => by
  rw [Clock.get_join]
  exact Nat.le_max_right ..

theorem bump (k : Clock) (b : PostBlock) : k.Le (k.bump b) := fun c => by
  rw [Clock.get_bump]
  exact Nat.le_add_right ..

/-- What is in a past is in one that holds it. -/
theorem inPast {x : Post} (h : k.Le k') (hx : x.inPast k) : x.inPast k' := Nat.le_trans hx (h x.block)

/-- A post is in every past that holds its own. -/
theorem inPast_self {x : Post} (h : x.clk.Le k) : x.inPast k := h x.block

end Clock.Le

/-- Between two states agent `a` alone has heard and posted: its past has grown, and each post made has in its past what the agent knew
before, and is known to the agent afterwards. -/
structure State.Grows (s t : State) (a : Agent) : Prop where
  clock : (s.clock a).Le (t.clock a)
  others : ∀ a', a' ≠ a → t.clock a' = s.clock a'
  posts : ∃ new, t.posts = s.posts ++ new ∧ ∀ x ∈ new, (s.clock a).Le x.clk ∧ x.clk.Le (t.clock a)

namespace State.Grows

variable {s t u : State} {a : Agent}

theorem refl (s : State) (a : Agent) : s.Grows s a := ⟨.refl _, fun _ _ => rfl, [], (List.append_nil _).symm, nofun⟩

theorem trans (h : s.Grows t a) (h' : t.Grows u a) : s.Grows u a := by
  obtain ⟨new, posts, new_⟩ := h.posts
  obtain ⟨later, posts', later_⟩ := h'.posts
  refine ⟨h.clock.trans h'.clock, fun a' ha => (h'.others a' ha).trans (h.others a' ha), new ++ later,
    by rw [posts', posts, List.append_assoc], fun x hx => ?_⟩
  rcases List.mem_append.1 hx with hx | hx
  · exact ⟨(new_ x hx).1, (new_ x hx).2.trans h'.clock⟩
  · exact ⟨h.clock.trans (later_ x hx).1, (later_ x hx).2⟩

/-- What neither a past nor a post is does not matter. -/
theorem congr {s' t' : State} (h : s.Grows t a) (clocks : s'.clocks = s.clocks) (posts : s'.posts = s.posts)
    (clocks' : t'.clocks = t.clocks) (posts' : t'.posts = t.posts) : s'.Grows t' a := by
  have clock : ∀ b, s'.clock b = s.clock b := fun b => congrArg (·[b.index]) clocks
  have clock' : ∀ b, t'.clock b = t.clock b := fun b => congrArg (·[b.index]) clocks'
  obtain ⟨grows, others, new, made, known⟩ := h
  refine ⟨by rw [clock, clock']; exact grows, fun b hb => by rw [clock, clock', others b hb], new, by rw [posts', posts, made], ?_⟩
  rw [clock, clock']
  exact known

/-- The posts made, named by the two lists. -/
theorem known (h : s.Grows t a) {new : List Post} (made : t.posts = s.posts ++ new) {x : Post} (hx : x ∈ new) :
    (s.clock a).Le x.clk ∧ x.clk.Le (t.clock a) := by
  obtain ⟨new', made', known⟩ := h.posts
  cases List.append_cancel_left (made.symm.trans made')
  exact known x hx

theorem hear (s : State) (a : Agent) (k : Clock) : s.Grows (s.hear a k) a where
  clock := by
    rw [State.clock_hear_self]
    exact .join_left _ _
  others a' ha := State.clock_hear_ne _ _ (Ne.symm ha)
  posts := ⟨[], (List.append_nil _).symm, nofun⟩

theorem post (s : State) (b : PostBlock) (p : Port) (n : Notice) : s.Grows (s.post b p n) (agentOf b) where
  clock := by
    rw [State.clock_post_self]
    exact .bump _ _
  others a' ha := State.clock_post_ne _ _ _ _ (Ne.symm ha)
  posts := by
    refine ⟨_, rfl, fun x hx => ?_⟩
    obtain rfl := List.mem_singleton.1 hx
    rw [State.clock_post_self]
    exact ⟨.bump _ _, .refl _⟩

/-- Steps that each grow, one after the other. -/
theorem foldl {α : Type} {f : State → α → State} (h : ∀ (s : State) (x : α), s.Grows (f s x) a) (l : List α) (s : State) : s.Grows (l.foldl f s) a := by
  induction l generalizing s with
  | nil => exact .refl s a
  | cons x l ih => exact (h s x).trans (ih _)

end State.Grows

/-- What an agent is handed is in the past of what it does next. -/
theorem hear_le (s : State) (a : Agent) (k : Clock) : k.Le ((s.hear a k).clock a) := by
  rw [State.clock_hear_self]
  exact .join_right _ _

/-! ### What the blocks post -/

theorem postEach_grows (s : State) (b : PostBlock) (n : Notice) (ps : List Port) : s.Grows (s.postEach b n ps) (agentOf b) :=
  .foldl (fun s p => .post s b p n) ps s

theorem postDropped_grows (s : State) (why : DropReason) (l : List Entry) : s.Grows (s.postDropped why l) .schedule :=
  State.Grows.foldl (fun t (e : Entry) => State.Grows.post t .schedule e.owner (droppedNotice e.tag why s.tb.machTime)) l s

theorem postOutcome_grows (s : State) (e : Entry) (n : Option Notice) : s.Grows (s.postOutcome e n) .schedule := by
  cases n with
  | none => exact .refl ..
  | some n => exact .post s .schedule e.owner n

theorem postSuperseded_grows (s : State) (c : Chan) (tag : Nat) : s.Grows (s.postSuperseded c tag) .channels := by
  unfold State.postSuperseded
  split
  · exact .refl ..
  · exact .post s .channels _ _

theorem applySet_grows (c : Chan) (level : Level) (tag : Nat) (s : State) : s.Grows (applySet c level tag s) .channels :=
  (postSuperseded_grows s c tag).congr rfl rfl rfl rfl

theorem applyWave_grows (c : Chan) (e : Entry) (kind : WaveKind) (ticks ordinal : Nat) (s : State) :
    s.Grows (applyWave c e kind ticks ordinal s) .channels :=
  (postSuperseded_grows s c e.tag).congr rfl rfl rfl rfl

theorem applyAction_grows (e : Entry) (ordinal : Nat) (s : State) : s.Grows (applyAction e ordinal s) .channels := by
  unfold applyAction
  split
  · exact applySet_grows ..
  · exact applyWave_grows ..
  · exact applyWave_grows ..
  · exact .foldl (fun t c => applySet_grows c _ _ t) _ s
  · exact .refl ..

theorem takeApplication_grows (w : Work) (e : Entry) (s : State) : s.Grows (takeApplication w e s).1 .channels := by
  unfold takeApplication
  dsimp only
  split
  · exact .hear ..
  · exact (State.Grows.hear s .channels w.clk).trans (applyAction_grows ..)

theorem takeEntry_grows (w : Work) (e : Entry) (rest : List Entry) (s : State) : s.Grows (takeEntry w e rest s) .schedule := by
  cases guard : s.guardMet e with
  | false =>
    rw [takeEntry_of_skipped guard]
    exact (State.Grows.post s .schedule e.owner _).congr rfl rfl rfl rfl
  | true =>
    by_cases mark : e.action = .mark
    · rw [takeEntry_of_mark guard mark]
      exact (postOutcome_grows s e _).congr rfl rfl rfl rfl
    · rw [takeEntry_of_handed guard mark]
      exact (State.Grows.refl s .schedule).congr rfl rfl rfl rfl

theorem takeEntries_grows (n : Nat) (s : State) : s.Grows (takeEntries n s) .schedule := by
  induction n generalizing s with
  | zero => exact .refl ..
  | succ n ih =>
    unfold takeEntries
    split
    · exact .refl ..
    · split
      · exact (takeEntry_grows ..).trans (ih _)
      · exact .refl ..

theorem openTick_grows (s : State) : s.Grows (openTick s) .schedule := by
  unfold openTick
  split
  · exact (State.Grows.hear s .schedule _).congr rfl rfl rfl rfl
  · exact .refl ..

theorem readyCheck_grows (e : JournalEntry) (s : State) (p : Port) : s.Grows (readyCheck e s p) .journal := by
  rw [readyCheck_eq]
  split
  · exact (State.Grows.post (s.setQueue p { s.queue p with latch := true }) .journal p _).congr rfl rfl rfl rfl
  · exact .refl ..

theorem storeEntry_grows (body : EntryBody) (s : State) : s.Grows (storeEntry body s) .journal := by
  have checks := State.Grows.foldl (readyCheck_grows ⟨s.journal.seqCounter, body⟩) (List.finRange 4)
    { s with journal := s.journal.makeRoom.push body }
  exact checks.congr rfl rfl rfl rfl

theorem takeOffer_grows (o : OfferBody) (s : State) : s.Grows (takeOffer o s) .journal := by
  unfold takeOffer
  split
  · split
    · exact storeEntry_grows ..
    · exact (State.Grows.refl s .journal).congr rfl rfl rfl rfl
  · exact .refl ..

/-! ### Taking a post (R173 to R177) -/

theorem isLost_iff {n : Notice} : n.isLost = true ↔ n.kind = .noticesLost := by simp [Notice.isLost]

section
variable {x : NoticeQueue} {n : Notice}

theorem any_isLost_eq_false (none : ∀ m ∈ x.notices, m.kind ≠ .noticesLost) : x.notices.any Notice.isLost = false :=
  List.any_eq_false.2 fun m hm => mt isLost_iff.1 (none m hm)

theorem take_of_room (none : ∀ m ∈ x.notices, m.kind ≠ .noticesLost) (room : x.notices.length < 15) :
    x.take n = { x with notices := x.notices ++ [n] } := by
  rw [NoticeQueue.take, any_isLost_eq_false none, if_neg Bool.false_ne_true]
  exact if_pos room

theorem take_of_full (none : ∀ m ∈ x.notices, m.kind ≠ .noticesLost) (full : 15 ≤ x.notices.length) :
    x.take n = { x with notices := x.notices ++ [⟨.noticesLost, 0, 1, n.stamp⟩] } := by
  rw [NoticeQueue.take, any_isLost_eq_false none, if_neg Bool.false_ne_true]
  exact if_neg (Nat.not_lt.2 full)

theorem countLost_of_not {m : Notice} (h : m.kind ≠ .noticesLost) : m.countLost = m := if_neg (mt isLost_iff.1 h)

theorem countLost_of_lost {m : Notice} (h : m.kind = .noticesLost) : m.countLost = { m with detail := min (m.detail + 1) 65535 } :=
  if_pos (isLost_iff.2 h)

theorem take_of_lost {front : List Notice} {last : Notice} (notices : x.notices = front ++ [last]) (lost : last.kind = .noticesLost)
    (none : ∀ m ∈ front, m.kind ≠ .noticesLost) :
    (x.take n).notices = front ++ [{ last with detail := min (last.detail + 1) 65535 }] := by
  have any : x.notices.any Notice.isLost = true := by simp [notices, isLost_iff.2 lost]
  have kept : front.map Notice.countLost = front := (List.map_congr_left fun m hm => countLost_of_not (none m hm)).trans (List.map_id' _)
  rw [NoticeQueue.take, if_pos any, notices, List.map_append, kept, List.map_singleton, countLost_of_lost lost]

theorem take_latch (x : NoticeQueue) (n : Notice) : (x.take n).latch = x.latch := by
  unfold NoticeQueue.take
  split
  · rfl
  · split <;> rfl

/-- A queue that has taken a post is not empty. -/
theorem take_ne_nil (x : NoticeQueue) (n : Notice) : (x.take n).notices ≠ [] := by
  unfold NoticeQueue.take
  split
  · next any =>
    intro h
    rw [List.map_eq_nil_iff.1 h] at any
    cases any
  · split <;> simp

end

section
variable {s : State} {p : Port} {b : PostBlock} {x : Post}

/-- The post taken is the block's oldest to the port. -/
theorem nextPost_some (h : s.nextPost p b = some x) : x.port = p ∧ x.block = b ∧ ∃ before after, s.posts = before ++ x :: after ∧
    (∀ y ∈ before, ¬ (y.port = p ∧ y.block = b)) ∧ s.posts.erase x = before ++ after := by
  obtain ⟨mine, before, after, posts, ahead⟩ := List.find?_eq_some_iff_append.1 h
  obtain ⟨port, block⟩ : x.port = p ∧ x.block = b := by simpa using mine
  have other : ∀ y ∈ before, ¬ (y.port = p ∧ y.block = b) := fun y hy => by
    simpa only [Bool.not_eq_true', Bool.and_eq_false_iff, beq_eq_false_iff_ne, not_and_or] using ahead y hy
  refine ⟨port, block, before, after, posts, other, ?_⟩
  rw [posts, List.erase_append_right _ fun hx => other x hx ⟨port, block⟩, List.erase_cons_head]

theorem noticePostEvent_welcome (next : s.nextPost p b = some x) (free : s.postBlocked x = false) (isOpen : s.isOpen p = true)
    (session : x.session = (s.port p).sessions) : noticePostEvent p b s =
      (({ s with posts := s.posts.erase x } : State).hear (.queue p) x.clk).setQueue p ((s.queue p).take x.notice) := by
  obtain ⟨port, -⟩ := nextPost_some next
  have welcome : (({ s with posts := s.posts.erase x } : State).hear (.queue p) x.clk).postWelcome x = true := by
    rw [State.postWelcome, port]
    exact Bool.and_eq_true_iff.2 ⟨isOpen, beq_iff_eq.2 session⟩
  simp only [noticePostEvent, next, free, welcome]
  rfl

theorem noticePostEvent_unwelcome (next : s.nextPost p b = some x) (free : s.postBlocked x = false)
    (gone : s.isOpen p = false ∨ x.session ≠ (s.port p).sessions) : noticePostEvent p b s =
      ({ s with posts := s.posts.erase x } : State).hear (.queue p) x.clk := by
  obtain ⟨port, -⟩ := nextPost_some next
  have unwelcome : (({ s with posts := s.posts.erase x } : State).hear (.queue p) x.clk).postWelcome x = false := by
    rw [State.postWelcome, port]
    refine Bool.and_eq_false_iff.2 (gone.imp id fun h => beq_eq_false_iff_ne.2 h)
  simp only [noticePostEvent, next, free, unwelcome]
  rfl

theorem noticePostEvent_blocked (next : s.nextPost p b = some x) {y : Post} (hy : y ∈ s.posts) (port : y.port = p) (other : y ≠ x)
    (past : y.inPast x.clk) : noticePostEvent p b s = s := by
  have blocked : s.postBlocked x = true := by
    refine List.any_eq_true.2 ⟨y, hy, ?_⟩
    rw [Bool.and_eq_true, Bool.and_eq_true, beq_iff_eq, bne_iff_ne]
    exact ⟨⟨port.trans (nextPost_some next).1.symm, other⟩, decide_eq_true past⟩
  simp only [noticePostEvent, next, blocked, if_true]

end

/-! ### What each event hands over with the posts it has made -/

/-- No post has been made. -/
theorem forall_new {s t : State} {new : List Post} {P : Post → Prop} (same : t.posts = s.posts) (made : t.posts = s.posts ++ new) :
    ∀ x ∈ new, P x := by
  have none : new = [] := List.append_cancel_left (made.symm.trans (same.trans (List.append_nil _).symm))
  rw [none]
  nofun

section
variable {s : State} {new : List Post}

theorem revocation_hands (c : Chan) (made : (revocationEvent (resOf c) s).posts = s.posts ++ new) :
    ∀ x ∈ new, ∃ e, ((revocationEvent (resOf c) s).lease (resOf c)).ending = some e ∧ x.inPast e.clk := by
  cases due : (s.lease (resOf c)).revokeDue with
  | false =>
    have event : revocationEvent (resOf c) s = s := if_neg (by simp [due])
    exact forall_new (by rw [event]) made
  | true =>
    cases holder : s.holder (resOf c) with
    | none =>
      have vacant : (s.lease (resOf c)).holder = none := holder
      exact forall_new (by simp [revocationEvent, due, vacant]) made
    | some old =>
      rw [revocationEvent_of_due holder due] at made ⊢
      by_cases contested : s.contested (resOf c) = true
      · rw [if_pos contested, endLease_of_ne (resOf_ne_timeline c)] at made ⊢
        have grows : s.Grows (s.revoking (resOf c) old) .leases :=
          (State.Grows.post (s.setLease (resOf c) { s.lease (resOf c) with revokeDue := false }) .leases old _).congr rfl rfl rfl rfl
        exact fun x hx => ⟨_, congrArg Lease.ending (State.lease_setLease_self ..),
          (grows.known (t := s.revoking (resOf c) old) made hx).2.inPast_self⟩
      · rw [if_neg contested] at made ⊢
        exact forall_new rfl made

theorem purging_grows (s : State) (c : Chan) (cause : EndCause) (old : Port) (clk : Clock) :
    (s.hear .schedule clk).Grows (s.purging c cause old clk) .schedule := by
  unfold State.purging
  split
  · exact postDropped_grows ..
  · exact .refl ..

/-- The DROPPED of a purge have in their past all that the purge was handed. -/
theorem leaseEndPurge_hands {c : Chan} {e : Ending} (ending : (s.lease (resOf c)).ending = some e)
    (made : (leaseEndPurgeEvent c s).posts = s.posts ++ new) {y : Post} (past : y.inPast e.clk) : ∀ x ∈ new, y.inPast x.clk := by
  obtain ⟨cause, old, stage, clk⟩ := e
  cases stage
  case purgeHanded =>
    cases busy : s.scheduleBusy with
    | true => exact forall_new (by simp [leaseEndPurgeEvent, ending, busy]) made
    | false =>
      obtain ⟨k, event⟩ := leaseEndPurgeEvent_of_handed ending busy
      rw [event] at made
      intro x hx
      have known := (purging_grows s c cause old clk).known made hx
      exact ((hear_le s .schedule clk).trans known.1).inPast past
  all_goals exact forall_new (by simp [leaseEndPurgeEvent, ending]) made

theorem tripGroup_grows (g : GroupId) (i : LineId) (s : State) : s.Grows (tripGroup g i s) .groups :=
  (postEach_grows (s.setGroup g { s.group g with
    state := .tripped, last := some (i, s.tb.machTime), locksOut := (chansOf (s.group g).channels).length }) .groups _ _).congr
    rfl rfl rfl rfl

theorem tripGroup_hands (g : GroupId) (i : LineId) (s : State) :
    (tripGroup g i s).lockMsgs = s.lockMsgs ++ lockMsgsTo g true (s.group g).channels ((tripGroup g i s).clock .groups) ∧
      (tripGroup g i s).offers = s.offers ++ [⟨.trip g i, (tripGroup g i s).clock .groups⟩] := by
  refine ⟨congrArg (· ++ _) ?_, congrArg (· ++ _) ?_⟩ <;> simp

/-- A trip's TRIPPED are in the past of each lock and of the trip record. -/
theorem groupLineChange_hands {g : GroupId} {i : LineId} {locks : List LockMsg} {offers : List Offer}
    (made : (groupLineChangeEvent g i s).posts = s.posts ++ new) (locked : (groupLineChangeEvent g i s).lockMsgs = s.lockMsgs ++ locks)
    (offered : (groupLineChangeEvent g i s).offers = s.offers ++ offers) :
    ∀ x ∈ new, (∀ m ∈ locks, x.inPast m.clk) ∧ ∀ o ∈ offers, x.inPast o.clk := by
  cases next : s.nextLineMsg g i with
  | none =>
    have event : groupLineChangeEvent g i s = s := by simp only [groupLineChangeEvent, next]
    exact forall_new (by rw [event]) made
  | some m =>
    rw [groupLineChangeEvent_of_next next] at made locked offered
    by_cases trips : (s.group g).tripsOn i m.level = true
    · rw [if_pos trips] at made locked offered
      obtain ⟨handed, recorded⟩ := tripGroup_hands g i (s.lineMsgTaken m)
      obtain rfl := List.append_cancel_left (locked.symm.trans handed)
      obtain rfl := List.append_cancel_left (offered.symm.trans recorded)
      intro x hx
      have known := ((tripGroup_grows g i (s.lineMsgTaken m)).known made hx).2
      refine ⟨fun l hl => ?_, fun o ho => ?_⟩
      · obtain ⟨c, -, rfl⟩ := List.mem_map.1 hl
        exact known.inPast_self
      · obtain rfl := List.mem_singleton.1 ho
        exact known.inPast_self
    · rw [if_neg trips] at made
      exact forall_new rfl made

/-- LOCK hands what it was handed to the report, and the channels know it. -/
theorem lock_hands {c : Chan} {g : GroupId} {m : LockMsg} (next : s.nextLockMsg c g = some m) (lock : m.lock = true) :
    ∃ k, ((lockEvent c g s).group g).reports = (s.group g).reports ++ [k] ∧
      ∀ y : Post, y.inPast m.clk → y.inPast k ∧ y.inPast ((lockEvent c g s).clock .channels) := by
  have heard := hear_le { s with lockMsgs := s.lockMsgs.erase m } .channels m.clk
  simp only [lockEvent, next, lock, if_true]
  exact ⟨_, congrArg Group.reports (State.group_setGroup_self ..), fun y hy => ⟨heard.inPast hy, heard.inPast hy⟩⟩

/-- The last LOCK_REPORT hands to the purge what it was handed. -/
theorem lockReport_hands {g : GroupId} {k : Clock} {later : List Clock} (reports : (s.group g).reports = k :: later)
    (last : (s.group g).locksOut = 1) : ∃ purge, ((lockReportEvent g s).group g).purges = (s.group g).purges ++ [purge] ∧
      ∀ y : Post, y.inPast k → y.inPast purge.clk := by
  have event : lockReportEvent g s = (s.hear .groups k).setGroup g { s.group g with
      reports := later
      locksOut := (s.group g).locksOut - 1
      purges := if (s.group g).locksOut = 1 then
        (s.group g).purges ++ [⟨(s.group g).channels, (s.hear .groups k).clock .groups⟩] else (s.group g).purges } := by
    simp only [lockReportEvent, reports]
    rfl
  rw [event]
  exact ⟨_, (congrArg Group.purges (State.group_setGroup_self ..)).trans (if_pos last), fun y hy => (hear_le s .groups k).inPast hy⟩

/-- The DROPPED of a trip purge have in their past all that the purge was handed. -/
theorem tripPurge_hands {g : GroupId} {purge : TripPurge} {later : List TripPurge} (handed : (s.group g).purges = purge :: later)
    (made : (tripPurgeEvent g s).posts = s.posts ++ new) {y : Post} (past : y.inPast purge.clk) : ∀ x ∈ new, y.inPast x.clk := by
  cases busy : s.scheduleBusy with
  | true => exact forall_new (by simp [tripPurgeEvent, handed, busy]) made
  | false =>
    rw [tripPurgeEvent_of_handed handed busy] at made
    intro x hx
    have known := (postDropped_grows (s.hear .schedule purge.clk) .trip
      (s.sched.entries.filter fun e => e.namesAny purge.channels)).known made hx
    exact ((hear_le s .schedule purge.clk).trans known.1).inPast past

/-- JOURNAL_OFFER's JOURNAL_READY have in their past what it was handed. -/
theorem journalOffer_hands {src : OfferSource} {o : Offer} (next : (s.offers.find? fun x => x.body.source == src) = some o)
    (made : (journalOfferEvent src s).posts = s.posts ++ new) {y : Post} (past : y.inPast o.clk) : ∀ x ∈ new, y.inPast x.clk := by
  rw [journalOfferEvent_of_next next] at made
  intro x hx
  have known := (takeOffer_grows o.body (s.offerTaken o)).known made hx
  exact ((hear_le { s with offers := s.offers.erase o } .journal o.clk).trans known.1).inPast past

end

/-! ### The end of a machine tick, and an application (R30, R35, R174; entry 12) -/

/-- The end of a tick leaves the schedule's past, and what it offers has that past. -/
theorem finishTick_hands (s : State) : (finishTick s).clock .schedule = s.clock .schedule ∧
    (s.clock .channels).Le ((finishTick s).clock .channels) ∧
    ∃ offers, (finishTick s).offers = s.offers ++ offers ∧ ∀ o ∈ offers, o.clk = s.clock .schedule := by
  unfold finishTick
  split
  · split
    · split
      · exact ⟨State.clock_hear_ne _ _ nofun, (State.Grows.hear { s with sched := _, offers := _ } .channels _).clock, _, rfl,
          fun o ho => Work.markOffers_clk ho⟩
      · exact ⟨rfl, .refl _, _, rfl, fun o ho => Work.markOffers_clk ho⟩
    · exact ⟨rfl, .refl _, [], (List.append_nil _).symm, nofun⟩
  · exact ⟨rfl, .refl _, [], (List.append_nil _).symm, nofun⟩

/-- A tick whose actions have reached the channels tells them of its posts when it is done. -/
theorem finishTick_tells {s : State} {w : Work} (hw : s.sched.work = some w) (reached : w.reached = true)
    (done : (finishTick s).sched.work = none) : (s.clock .schedule).Le ((finishTick s).clock .channels) := by
  by_cases ended : w.rest = [] ∧ w.handed = none
  · simp only [finishTick, hw, if_pos ended, if_pos reached]
    exact hear_le { s with sched := _, offers := _ } .channels (s.clock .schedule)
  · rw [finishTick_of_open fun v hv => by cases hw.symm.trans hv; exact ended, hw] at done
    cases done

theorem takeEntry_reached (w : Work) (e : Entry) (rest : List Entry) (s : State) (reached : w.reached = true) :
    ∃ w', (takeEntry w e rest s).sched.work = some w' ∧ w'.reached = true := by
  cases guard : s.guardMet e with
  | false => exact ⟨{ w with rest := rest }, by rw [takeEntry_of_skipped guard], reached⟩
  | true =>
    by_cases mark : e.action = .mark
    · exact ⟨{ w with rest := rest, marks := w.marks ++ [(e.owner, e.tag)] }, by rw [takeEntry_of_mark guard mark], reached⟩
    · exact ⟨_, by rw [takeEntry_of_handed guard mark], rfl⟩

/-- A tick in hand that has reached the channels stays so while its entries are taken. -/
theorem takeEntries_reached (n : Nat) {s : State} {w : Work} (hw : s.sched.work = some w) (reached : w.reached = true) :
    ∃ w', (takeEntries n s).sched.work = some w' ∧ w'.reached = true := by
  induction n generalizing s w with
  | zero => exact ⟨w, hw, reached⟩
  | succ n ih =>
    cases hh : w.handed with
    | some e => exact ⟨w, by rw [takeEntries_of_handed hw (by simp [hh]), hw], reached⟩
    | none =>
      cases hr : w.rest with
      | nil => exact ⟨w, by rw [takeEntries_of_empty hw hr, hw], reached⟩
      | cons e rest =>
        rw [takeEntries_succ hw hh hr]
        obtain ⟨w', hw', reached'⟩ := takeEntry_reached w e rest s reached
        exact ih hw' reached'

/-- A machine tick: its posts are known to the schedule, to each mark offered, and to the channels that it reached. -/
theorem scheduleTick_hands {s : State} {slice : Nat} {new : List Post} {offers : List Offer}
    (made : (scheduleTickEvent slice s).posts = s.posts ++ new) (offered : (scheduleTickEvent slice s).offers = s.offers ++ offers) :
    let t := scheduleTickEvent slice s
    (∀ x ∈ new, x.inPast (t.clock .schedule)) ∧ (∀ y : Post, y.inPast (s.clock .schedule) → y.inPast (t.clock .schedule)) ∧
      (∀ o ∈ offers, ∀ y : Post, y.inPast (t.clock .schedule) → y.inPast o.clk) ∧
      (∀ w, s.sched.work = some w → w.reached = true → t.sched.work = none →
        ∀ y : Post, y.inPast (t.clock .schedule) → y.inPast (t.clock .channels)) := by
  have grows := (openTick_grows s).trans (takeEntries_grows slice (openTick s))
  have sameOffers : (takeEntries slice (openTick s)).offers = s.offers := by simp
  have tells : ∀ w, s.sched.work = some w → w.reached = true → (scheduleTickEvent slice s).sched.work = none →
      ((takeEntries slice (openTick s)).clock .schedule).Le ((scheduleTickEvent slice s).clock .channels) := fun w hw reached done => by
    obtain ⟨w', hw', reached'⟩ := takeEntries_reached slice (s := openTick s) (by rw [openTick_of_work hw, hw]) reached
    exact finishTick_tells hw' reached' done
  obtain ⟨schedule, -, marks, finished, past⟩ := finishTick_hands (takeEntries slice (openTick s))
  have posts := finishTick_posts (takeEntries slice (openTick s))
  rw [← scheduleTickEvent] at schedule finished posts
  rw [posts] at made
  rw [finished, sameOffers] at offered
  obtain rfl := List.append_cancel_left offered
  dsimp only
  rw [schedule]
  exact ⟨fun x hx => (grows.known made hx).2.inPast_self, fun y hy => grows.clock.inPast hy,
    fun o ho y hy => by rw [past o ho]; exact hy, fun w hw reached done y hy => (tells w hw reached done).inPast hy⟩

/-- An application: the channels act and post, the schedule hears of it and posts the outcome, and the tick goes on. -/
theorem applicationEvent_stages {s : State} {w : Work} {e : Entry} (hw : s.sched.work = some w) (he : w.handed = some e) :
    ∃ a u, applicationEvent s = (finishTick u).hear .channels (u.clock .schedule) ∧ s.Grows a .channels ∧
      (a.hear .schedule (a.clock .channels)).Grows u .schedule ∧ u.offers = s.offers := by
  simp only [applicationEvent, hw, he]
  exact ⟨(takeApplication w e s).1, _, rfl, takeApplication_grows w e s,
    (postOutcome_grows _ e _).congr rfl rfl rfl rfl, by simp⟩

theorem application_hands {s : State} {w : Work} {e : Entry} {new : List Post} (hw : s.sched.work = some w) (he : w.handed = some e)
    (made : (applicationEvent s).posts = s.posts ++ new) : let t := applicationEvent s
    (∀ y : Post, y.inPast (s.clock .channels) → ∀ x ∈ new, y.inPast x.clk) ∧
      (∀ x ∈ new, x.inPast (t.clock .channels) ∧ x.inPast (t.clock .schedule)) ∧
      ∀ offers : List Offer, t.offers = s.offers ++ offers → ∀ o ∈ offers, (∀ x ∈ new, x.inPast o.clk) ∧
        ∀ y : Post, y.inPast (s.clock .schedule) → y.inPast o.clk := by
  obtain ⟨a, u, event, acted, outcome, sameOffers⟩ := applicationEvent_stages hw he
  obtain ⟨schedule, -, marks, finished, past⟩ := finishTick_hands u
  obtain ⟨first, actedPosts, actedKnown⟩ := acted.posts
  obtain ⟨second, outcomePosts, outcomeKnown⟩ := outcome.posts
  have heard : (a.clock .channels).Le ((a.hear .schedule (a.clock .channels)).clock .schedule) := hear_le _ _ _
  have told : (u.clock .schedule).Le ((applicationEvent s).clock .channels) := by
    rw [event]
    exact hear_le _ _ _
  have schedule' : (applicationEvent s).clock .schedule = u.clock .schedule := by
    rw [event, State.clock_hear_ne (finishTick u) _ (show Agent.channels ≠ .schedule from nofun), schedule]
  have before : (s.clock .schedule).Le (u.clock .schedule) := by
    rw [← acted.others .schedule nofun]
    exact (State.Grows.hear a .schedule _).clock.trans outcome.clock
  have all : new = first ++ second := by
    refine List.append_cancel_left (made.symm.trans ?_)
    rw [event, ← List.append_assoc, ← actedPosts]
    exact (finishTick_posts u).trans outcomePosts
  have known : ∀ x ∈ new, (s.clock .channels).Le x.clk ∧ x.clk.Le (u.clock .schedule) := fun x hx => by
    rw [all] at hx
    rcases List.mem_append.1 hx with hx | hx
    · exact ⟨(actedKnown x hx).1, (actedKnown x hx).2.trans (heard.trans outcome.clock)⟩
    · exact ⟨acted.clock.trans (heard.trans (outcomeKnown x hx).1), (outcomeKnown x hx).2⟩
  refine ⟨fun y hy x hx => (known x hx).1.inPast hy, fun x hx => ⟨((known x hx).2.trans told).inPast_self, ?_⟩,
    fun offers offered o ho => ?_⟩
  · rw [schedule']
    exact (known x hx).2.inPast_self
  · have same : offers = marks := by
      refine List.append_cancel_left (offered.symm.trans ?_)
      rw [event, ← sameOffers]
      exact finished
    rw [past o (same ▸ ho)]
    exact ⟨fun x hx => (known x hx).2.inPast_self, fun y hy => before.inPast hy⟩

/-- Settles O48: a post is taken by its port's queue after those of its past, and each event hands on what it has heard and posted. -/
theorem postsAreStoredCountedOrDiscarded : Obligations.PostsAreStoredCountedOrDiscarded := by
  refine ⟨fun s p b x running next free isOpen session => ⟨_, rfl, ?stored⟩, fun s p b x next free => ⟨fun gone => ⟨_, rfl, ?gone⟩, ?oldest⟩,
    fun s p b x y next hy port other past => congrArg Host.Outcome.next (noticePostEvent_blocked next hy port other past),
    fun s a k y known => known.elim (fun h => (hear_le s a k).inPast h) fun h => (State.Grows.hear s a k).clock.inPast h,
    fun s b p n => ?post, ?_, ?_, ?_, ?_, ?_, ?_, ?_, ?_, ?_⟩
  case stored =>
    rw [noticePostEvent_welcome next free isOpen session]
    have queue : ((({ s with posts := s.posts.erase x } : State).hear (.queue p) x.clk).setQueue p
        ((s.queue p).take x.notice)).queue p = (s.queue p).take x.notice := State.queue_setQueue_self ..
    refine ⟨rfl, fun q hq => State.queue_setQueue_ne _ _ _ _ (Ne.symm hq), ?_, ?_, fun none room => ?_, fun none full => ?_,
      fun front last notices lost none => ?_⟩
    · rw [queue, take_latch]
    · have low := take_ne_nil (s.queue p) x.notice
      simp [State.attnPin, State.attn, running, low]
    · rw [queue, take_of_room none room]
    · rw [queue, take_of_full none full]
    · rw [queue, take_of_lost notices lost none]
  case gone =>
    rw [noticePostEvent_unwelcome next free gone]
    rfl
  case oldest =>
    obtain ⟨port, block, before, after, posts, ahead, rest⟩ := nextPost_some next
    exact ⟨before, after, posts, port, block, ahead, rest⟩
  case post =>
    refine ⟨_, rfl, ?_, fun y hy => (Clock.Le.bump _ _).inPast hy⟩
    rw [State.clock_post_self]
    exact (Clock.Le.refl _).inPast_self
  · rintro s t c new ⟨⟩ made
    exact revocation_hands c made
  · rintro s t c e new ending ⟨⟩ made y past
    exact leaseEndPurge_hands ending made past
  · rintro s t g i new locks offers ⟨⟩ made locked offered
    exact groupLineChange_hands made locked offered
  · rintro s t c g m next lock ⟨⟩
    exact lock_hands next lock
  · rintro s t g k later reports last ⟨⟩
    exact lockReport_hands reports last
  · rintro s t g purge later new handed ⟨⟩ made y past
    exact tripPurge_hands handed made past
  · rintro s t w e new hw he ⟨⟩ made
    exact application_hands hw he made
  · rintro s t slice new offers ⟨⟩ made offered
    exact scheduleTick_hands made offered
  · rintro s t src o new next ⟨⟩ made y past
    exact journalOffer_hands next made past

end Sys2Proof.Machine
end
